-- ==== Sys2Proof/Word.lean ====
section
/-! DEFINITION. Word.lean: the word types of the wire, and the two fixed-length byte sequences of the frames. -/

namespace Sys2Proof

/-- One byte: an element of the RX and TX streams and of the frame buffers (20_memory.md R50). -/
abbrev Byte := BitVec 8

/-- A node identifier, 4 bits (30_encoding.md R72). -/
abbrev Nibble := BitVec 4

/-- A 16-bit word: magic, angle pattern, checksum (00_scope.md R8). -/
abbrev Word16 := BitVec 16

/-- A 32-bit word: a host request word, a baud rate (30_encoding.md R78). -/
abbrev Word32 := BitVec 32

/-- Six places at the offsets of a status frame (30_encoding.md R74): `b0` is offset 0, sent first. -/
structure Bytes6 (α : Type) where
  b0 : α
  b1 : α
  b2 : α
  b3 : α
  b4 : α
  b5 : α
  deriving DecidableEq, Repr, Inhabited

/-- Seven places at the offsets of a command frame (30_encoding.md R73): `b0` is offset 0, sent first. -/
structure Bytes7 (α : Type) where
  b0 : α
  b1 : α
  b2 : α
  b3 : α
  b4 : α
  b5 : α
  b6 : α
  deriving DecidableEq, Repr, Inhabited

end Sys2Proof
end

