-- ==== Sys2Proof/Config.lean ====
section
/-! DEFINITION. Config.lean: what is fixed for one instance of the block (the parameters of 00_scope.md R6), the
answers the link environment may give (60_exceptions.md R240), and the free values: constants with no body, so that
nothing can be proved of their value. -/

namespace Sys2Proof

/-- The parameter `P_CRC` (00_scope.md R6, 41_checksum.md R101). -/
structure CrcParams where
  poly   : Word16
  init   : Word16
  refin  : Bool
  refout : Bool
  xorout : Word16
  deriving DecidableEq, Repr, Inhabited

/-- The parameters of 00_scope.md R6 other than `baud`, fixed for the life of one instance (10_state.md R30). -/
structure Params where
  /-- `P_MAGIC`, OPEN (92 D3). -/
  magic : Word16
  /-- `P_CRC`, OPEN (92 D4). -/
  crc : CrcParams
  /-- `P_T_BYTE_MS`, reference value 1 (92 D9). -/
  tByteMs : Nat
  /-- `P_HDR_SRC_LOW`, default true (92 D7). -/
  hdrSrcLow : Bool
  /-- `P_LOG_SEEK_TIMEOUT`, default false (92 D19). -/
  logSeekTimeout : Bool
  deriving DecidableEq, Repr, Inhabited

/-- An opaque link handle (10_state.md R21); its tag is never looked at. DESIGN CHOICE (log entry 14). -/
structure LinkHandle where
  tag : Nat
  deriving DecidableEq, Repr, Inhabited

/-- An item of the RX stream (20_memory.md R51): a byte in delivery order, or a silence that outlasts the budget of
the read it meets. DESIGN CHOICE: silences stand in the stream (log entry 3). -/
inductive RxItem where
  | byte (b : Byte)
  | gap
  deriving DecidableEq, Repr, Inhabited

/-- E's answer to `LinkOpen` (00_scope.md R9), or that it has not answered yet (60_exceptions.md R234). -/
inductive OpenAnswer where
  | ok (h : LinkHandle)
  | fail
  | notYet
  deriving DecidableEq, Repr, Inhabited

/-- E's answer to `LinkClose` (00_scope.md R9), or that it has not answered yet (60_exceptions.md R234). -/
inductive CloseAnswer where
  | done
  | notYet
  deriving DecidableEq, Repr, Inhabited

/-- E's answer to a `TxWrite` of 7 bytes: `Done(k)` with `0 <= k <= 7` (00_scope.md R9, 60_exceptions.md R240), or
that it has not answered yet (60_exceptions.md R234). -/
inductive WriteAnswer where
  | done (k : Fin 8)
  | notYet
  deriving DecidableEq, Repr, Inhabited

/-- The parameters of the machine that `State.reset` is: OPEN, so not given (00_scope.md R6). Log entry 1. -/
opaque Config.params : Params

/-- Free value: the `n`-th item E delivers on RX beyond what `Env.rx` lists (20_memory.md R51). Log entry 2. -/
opaque Config.rxItem (n : Nat) : RxItem

/-- Free value: E's answer to a `LinkOpen` beyond what `Env.opens` lists (60_exceptions.md R240). Log entry 2. -/
opaque Config.openAnswer (n : Nat) : OpenAnswer

/-- Free value: E's answer to a `LinkClose` beyond what `Env.closes` lists (60_exceptions.md R240). Log entry 2. -/
opaque Config.closeAnswer (n : Nat) : CloseAnswer

/-- Free value: E's answer to a `TxWrite` beyond what `Env.writes` lists (60_exceptions.md R240). Log entry 2. -/
opaque Config.writeAnswer (n : Nat) : WriteAnswer

/-- Free value: what a read of the unwritten byte at offset `n` of `rx_buf` would give (93 I11). No rule reads one
(10_state.md R25). Log entry 11. -/
opaque Config.unwrittenByte (n : Nat) : Byte

end Sys2Proof
end

