-- ==== Sys2Proof/Syntax.lean ====
section
/-! DEFINITION. Syntax.lean: the instructions (one constructor per row of opcode_table.json), the encoded forms they
are read from, and the frames and failure reasons that the parsers answer with. -/

namespace Sys2Proof

/-- `path`, the opaque device identifier that OPEN carries (30_encoding.md R78), as a string of bytes. DESIGN CHOICE
(log entry 14). -/
abbrev Path := List Byte

/-- The two frame kinds (30_encoding.md R70). -/
inductive FrameKind where
  | command
  | status
  deriving DecidableEq, Repr

/-- One input in its encoded form: a host request, that is a request word with the side operands only OPEN uses
(30_encoding.md R78), or the bytes of a frame on the wire (30_encoding.md R73, R74), offset 0 first. -/
inductive Encoded where
  | request (w : Word32) (path : Path) (baud : Word32)
  | wire (kind : FrameKind) (bytes : List Byte)
  deriving DecidableEq, Repr

/-- The instructions: the four host operations (30_encoding.md R79) and the two wire frames (R73, R74). -/
inductive Instr where
  /-- OPEN, op 0x01 (44_link_session.md R194). -/
  | openLink (path : Path) (baud : Word32)
  /-- CLOSE, op 0x02 (44_link_session.md R195). -/
  | closeLink
  /-- SEND_COMMAND, op 0x03 (44_link_session.md R196); `angle` is a signed 16-bit integer. -/
  | sendCommand (src dst : Nibble) (angle : Int)
  /-- POLL_STATUS, op 0x04 (44_link_session.md R197). -/
  | pollStatus
  /-- COMMAND_FRAME, 7 bytes on the wire (30_encoding.md R73, 42_frame_codec.md R122). -/
  | commandFrame (src dst : Nibble) (angle : Int) (ck : Word16)
  /-- STATUS_FRAME, 6 bytes on the wire (30_encoding.md R74, 42_frame_codec.md R124). -/
  | statusFrame (src dst : Nibble) (status : Byte) (ck : Word16)
  deriving DecidableEq, Repr

/-- `StatusFrame{src, dst, status, ck}` (30_encoding.md R81). -/
structure StatusFrame where
  src    : Nibble
  dst    : Nibble
  status : Byte
  ck     : Word16
  deriving DecidableEq, Repr

/-- `CommandFrame{src, dst, angle, ck}` (42_frame_codec.md R125). -/
structure CommandFrame where
  src   : Nibble
  dst   : Nibble
  angle : Int
  ck    : Word16
  deriving DecidableEq, Repr

/-- The reasons of a `Failed(reason)` outcome (43_resync_decoder.md R151, 60_exceptions.md R230). -/
inductive FailReason where
  | timeout
  | magicMismatch
  | incompleteFrame
  | checksumMismatch (observed expected : Word16)
  deriving DecidableEq, Repr

/-- `Decoded(frame)` or `Failed(reason)` (00_scope.md R10, "Outcome"). -/
inductive FrameOutcome (φ : Type) where
  | decoded (f : φ)
  | failed (r : FailReason)
  deriving DecidableEq, Repr

/-- The refusal reasons, a closed enumeration (60_exceptions.md R233). -/
inductive RefusalReason where
  /-- `op` not in 0x01 to 0x04. -/
  | reservedOp
  /-- OPEN, CLOSE or POLL_STATUS with `w[31:8] != 0`. -/
  | reservedBits
  /-- OPEN while `sess = OPEN`. -/
  | openWhileOpen
  /-- A request before the previous one returned, or by a second host agent. -/
  | concurrentCaller
  deriving DecidableEq, Repr

/-- What the decoder makes of an encoded form: an instruction, or a rejection by name. -/
inductive Decoded where
  | instr (i : Instr)
  /-- The request is refused (30_encoding.md R80). -/
  | reserved (r : RefusalReason)
  /-- The bytes are no frame of their kind: wrong length (30_encoding.md R87). -/
  | badLength
  /-- The bytes are no frame of their kind: magic or checksum (30_encoding.md R77). -/
  | badFrame (r : FailReason)
  deriving DecidableEq, Repr

end Sys2Proof
end

