-- ==== Sys2Proof/Machine/Operands.lean ====
section
/-! DEFINITION. Machine/Operands.lean: the operand forms. The sizes of 00_scope.md R7, the byte order and sign
conversions of R8, the header nibbles (42_frame_codec.md R120, R121) and the fields of a request word
(30_encoding.md R78). -/

namespace Sys2Proof.Machine

/-- `MAGIC_SIZE` (00_scope.md R7). -/
def magicSize : Nat := 2
/-- `HDR_SIZE` (00_scope.md R7). -/
def hdrSize : Nat := 1
/-- `CMD_PAYLOAD_SIZE` (00_scope.md R7). -/
def cmdPayloadSize : Nat := 2
/-- `STATUS_PAYLOAD_SIZE` (00_scope.md R7). -/
def statusPayloadSize : Nat := 1
/-- `CK_SIZE` (00_scope.md R7). -/
def ckSize : Nat := 2
/-- `CMD_FRAME_SIZE` (00_scope.md R7). -/
def cmdFrameSize : Nat := magicSize + hdrSize + cmdPayloadSize + ckSize
/-- `STATUS_FRAME_SIZE` (00_scope.md R7). -/
def statusFrameSize : Nat := magicSize + hdrSize + statusPayloadSize + ckSize
/-- `BODY_SIZE` (00_scope.md R7). -/
def bodySize : Nat := statusFrameSize - magicSize

/-- The byte at offset 0 of `le16(v)` (00_scope.md R8). -/
def loByte (v : Word16) : Byte := v.extractLsb' 0 8

/-- The byte at offset 1 of `le16(v)` (00_scope.md R8). -/
def hiByte (v : Word16) : Byte := v.extractLsb' 8 8

/-- `le16(v) = [v[7:0], v[15:8]]` (00_scope.md R8, 20_memory.md R54). -/
def le16 (v : Word16) : List Byte := [loByte v, hiByte v]

/-- `from_le16(lo, hi) = {hi, lo}` (00_scope.md R8). -/
def fromLe16 (lo hi : Byte) : Word16 := hi ++ lo

/-- `int16(w)`: two's complement (00_scope.md R8). -/
def int16 (w : Word16) : Int := w.toInt

/-- `word16(i)`: the 16-bit two's-complement pattern (00_scope.md R8). An integer outside the range, which no
well-formed instruction has, wraps: DESIGN CHOICE (log entry 18). -/
def word16 (i : Int) : Word16 := BitVec.ofInt 16 i

/-- The legal angles, -32768 to 32767 (30_encoding.md R75, R77). -/
def angleInRange (a : Int) : Bool := decide (-32768 ≤ a) && decide (a ≤ 32767)

/-- `MAGIC_WIRE[i]` (30_encoding.md R71). -/
def magicWire (p : Params) (i : BitVec 1) : Byte := if i = 0#1 then loByte p.magic else hiByte p.magic

/-- PACK_HEADER (42_frame_codec.md R120). -/
def packHeader (p : Params) (src dst : Nibble) : Byte :=
  if p.hdrSrcLow then dst ++ src else src ++ dst

/-- The low nibble `hdr[3:0]`. -/
def loNibble (hdr : Byte) : Nibble := hdr.extractLsb' 0 4

/-- The high nibble `hdr[7:4]`. -/
def hiNibble (hdr : Byte) : Nibble := hdr.extractLsb' 4 4

/-- `src` of UNPACK_HEADER (42_frame_codec.md R121). -/
def headerSrc (p : Params) (hdr : Byte) : Nibble := if p.hdrSrcLow then loNibble hdr else hiNibble hdr

/-- `dst` of UNPACK_HEADER (42_frame_codec.md R121). -/
def headerDst (p : Params) (hdr : Byte) : Nibble := if p.hdrSrcLow then hiNibble hdr else loNibble hdr

/-- UNPACK_HEADER (42_frame_codec.md R121). -/
def unpackHeader (p : Params) (hdr : Byte) : Nibble × Nibble := (headerSrc p hdr, headerDst p hdr)

/-- The six bytes in offset order. -/
def bytes6List {α : Type} (f : Bytes6 α) : List α := [f.b0, f.b1, f.b2, f.b3, f.b4, f.b5]

/-- The seven bytes in offset order. -/
def bytes7List {α : Type} (f : Bytes7 α) : List α := [f.b0, f.b1, f.b2, f.b3, f.b4, f.b5, f.b6]

/-- `op = w[7:0]` (30_encoding.md R78). -/
def reqOp (w : Word32) : Byte := w.extractLsb' 0 8
/-- `src = w[11:8]` (30_encoding.md R78). -/
def reqSrc (w : Word32) : Nibble := w.extractLsb' 8 4
/-- `dst = w[15:12]` (30_encoding.md R78). -/
def reqDst (w : Word32) : Nibble := w.extractLsb' 12 4
/-- `w[31:16]`, the pattern of `angle` (30_encoding.md R78). -/
def reqAngle (w : Word32) : Word16 := w.extractLsb' 16 16
/-- `w[31:8]`, reserved but for SEND_COMMAND (30_encoding.md R78). -/
def reqReserved (w : Word32) : BitVec 24 := w.extractLsb' 8 24

end Sys2Proof.Machine
end

