-- ==== Sys2Proof/Machine/Checksum.lean ====
section
/-! DEFINITION. Machine/Checksum.lean: the checksum engine and the checksum-16 validator (41_checksum.md). -/

namespace Sys2Proof.Machine

/-- `reflect_N(v)`: the N-bit word whose bit `i` is `v[N-1-i]` (41_checksum.md R101). -/
def reflect {n : Nat} (v : BitVec n) : BitVec n := v.reverse

/-- One shift of the CRC register (41_checksum.md R101). -/
def crcBit (poly reg : Word16) : Word16 :=
  if reg.getLsbD 15 then (reg <<< 1) ^^^ poly else reg <<< 1

/-- `n` shifts of the CRC register (41_checksum.md R101, "repeat 8 times"). -/
def crcShift (poly : Word16) : Nat → Word16 → Word16
  | 0, reg => reg
  | n + 1, reg => crcShift poly n (crcBit poly reg)

/-- The input byte, reflected where `refin` says so (41_checksum.md R101). -/
def crcInput (c : CrcParams) (d : Byte) : Byte := if c.refin then reflect d else d

/-- One byte of input: `reg xor (zext_16(b) << 8)`, then eight shifts (41_checksum.md R101). -/
def crcByte (c : CrcParams) (reg : Word16) (d : Byte) : Word16 :=
  crcShift c.poly 8 (reg ^^^ ((crcInput c d).setWidth 16 <<< 8))

/-- The final reflection and XOR (41_checksum.md R101). -/
def crcFinal (c : CrcParams) (reg : Word16) : Word16 :=
  (if c.refout then reflect reg else reg) ^^^ c.xorout

/-- CHECKSUM(d) (41_checksum.md R100, R101). -/
def checksum (c : CrcParams) (d : List Byte) : Word16 := crcFinal c (d.foldl (crcByte c) c.init)

/-- The result of VALIDATE: `(ok, observed, expected)` (41_checksum.md R104). -/
def validate (c : CrcParams) (payload : List Byte) (ckRx : Word16) : Bool × Word16 × Word16 :=
  (decide (ckRx = checksum c payload), ckRx, checksum c payload)

/-- CRC-16/CCITT-FALSE, the default for vectors, not the hardware's (41_checksum.md R102). -/
def crcCcittFalse : CrcParams := ⟨0x1021, 0xFFFF, false, false, 0x0000⟩
/-- XMODEM (41_checksum.md R102). -/
def crcXmodem : CrcParams := ⟨0x1021, 0x0000, false, false, 0x0000⟩
/-- KERMIT (41_checksum.md R102). -/
def crcKermit : CrcParams := ⟨0x1021, 0x0000, true, true, 0x0000⟩
/-- ARC (41_checksum.md R102). -/
def crcArc : CrcParams := ⟨0x8005, 0x0000, true, true, 0x0000⟩
/-- MODBUS (41_checksum.md R102). -/
def crcModbus : CrcParams := ⟨0x8005, 0xFFFF, true, true, 0x0000⟩

/-- The example parameters of the vectors (95_test_vectors.md, conventions); none is the hardware's. -/
def vectorParams : Params := ⟨0xCAFE, crcCcittFalse, 1, true, false⟩

end Sys2Proof.Machine
end

