-- ==== Sys2Proof/Machine/Codec.lean ====
section
/-! DEFINITION. Machine/Codec.lean: the pure functions of the command/status frame encoder-decoder
(42_frame_codec.md R122 to R125). -/

namespace Sys2Proof.Machine

/-- The payload wire bytes of a command frame (41_checksum.md R103). -/
def commandPayload (angle : Int) : List Byte := le16 (word16 angle)

/-- CHECKSUM over the payload of a command frame (41_checksum.md R103). -/
def commandCk (p : Params) (angle : Int) : Word16 := checksum p.crc (commandPayload angle)

/-- CHECKSUM over the payload of a status frame (41_checksum.md R103). -/
def statusCk (p : Params) (status : Byte) : Word16 := checksum p.crc [status]

/-- The command frame layout with a given checksum field (30_encoding.md R73). -/
def layCommand (p : Params) (src dst : Nibble) (angle : Int) (ck : Word16) : Bytes7 Byte where
  b0 := loByte p.magic
  b1 := hiByte p.magic
  b2 := packHeader p src dst
  b3 := loByte (word16 angle)
  b4 := hiByte (word16 angle)
  b5 := loByte ck
  b6 := hiByte ck

/-- The status frame layout with a given checksum field (30_encoding.md R74). -/
def layStatus (p : Params) (src dst : Nibble) (status : Byte) (ck : Word16) : Bytes6 Byte where
  b0 := loByte p.magic
  b1 := hiByte p.magic
  b2 := packHeader p src dst
  b3 := status
  b4 := loByte ck
  b5 := hiByte ck

/-- ENCODE_COMMAND (42_frame_codec.md R122). -/
def encodeCommand (p : Params) (src dst : Nibble) (angle : Int) : Bytes7 Byte :=
  layCommand p src dst angle (commandCk p angle)

/-- ENCODE_STATUS (42_frame_codec.md R123). -/
def encodeStatus (p : Params) (src dst : Nibble) (status : Byte) : Bytes6 Byte :=
  layStatus p src dst status (statusCk p status)

/-- The verdict on a status frame whose magic has matched: VALIDATE over the status byte, then the fields
(42_frame_codec.md R124, 43_resync_decoder.md R156). -/
def statusVerdict (p : Params) (hdr status ckLo ckHi : Byte) : FrameOutcome StatusFrame :=
  match validate p.crc [status] (fromLe16 ckLo ckHi) with
  | (false, obs, exp) => .failed (.checksumMismatch obs exp)
  | (true, obs, _) => .decoded ⟨headerSrc p hdr, headerDst p hdr, status, obs⟩

/-- PARSE_STATUS (42_frame_codec.md R124). -/
def parseStatus (p : Params) (f : Bytes6 Byte) : FrameOutcome StatusFrame :=
  if f.b0 ≠ magicWire p 0#1 then .failed .magicMismatch
  else if f.b1 ≠ magicWire p 1#1 then .failed .magicMismatch
  else statusVerdict p f.b2 f.b3 f.b4 f.b5

/-- PARSE_COMMAND (42_frame_codec.md R125). -/
def parseCommand (p : Params) (f : Bytes7 Byte) : FrameOutcome CommandFrame :=
  if f.b0 ≠ magicWire p 0#1 ∨ f.b1 ≠ magicWire p 1#1 then .failed .magicMismatch
  else
    match validate p.crc [f.b3, f.b4] (fromLe16 f.b5 f.b6) with
    | (false, obs, exp) => .failed (.checksumMismatch obs exp)
    | (true, obs, _) => .decoded ⟨headerSrc p f.b2, headerDst p f.b2, int16 (fromLe16 f.b3 f.b4), obs⟩

end Sys2Proof.Machine
end

