-- ==== Sys2Proof/WellFormed.lean ====
section
/-! DEFINITION. WellFormed.lean: the instructions whose operands the encodings admit. -/

namespace Sys2Proof

open Sys2Proof.Machine

/-- Two checks. An angle is a signed 16-bit integer (30_encoding.md R77, R84). The checksum field of a frame is
CHECKSUM of its payload (30_encoding.md R73, R74). Every other operand is legal at every value of its type
(30_encoding.md R77); OPEN with rate 0 is legal and answers OPEN_FAILURE (44_link_session.md R194). -/
def Instr.wellFormed (p : Params) : Instr → Bool
  | .openLink _ _ => true
  | .closeLink => true
  | .sendCommand _ _ angle => angleInRange angle
  | .pollStatus => true
  | .commandFrame _ _ angle ck => angleInRange angle && decide (ck = commandCk p angle)
  | .statusFrame _ _ status ck => decide (ck = statusCk p status)

end Sys2Proof
end

