-- ==== Sys2Proof/Decode.lean ====
section
/-! DEFINITION. Decode.lean: the decoder, total on any request word and any bytes, rejecting by name, and the encoder
(30_encoding.md). -/

namespace Sys2Proof

open Sys2Proof.Machine

/-- A host operation without operands in its word: `w[31:8]` must be 0 (30_encoding.md R80). -/
def plainRequest (w : Word32) (i : Instr) : Decoded :=
  if reqReserved w = 0#24 then .instr i else .reserved .reservedBits

/-- The refusal checks and the operation of a request word (30_encoding.md R78 to R80, 44_link_session.md R201). -/
def decodeRequest (w : Word32) (path : Path) (baud : Word32) : Decoded :=
  if reqOp w = 0x01#8 then plainRequest w (.openLink path baud)
  else if reqOp w = 0x02#8 then plainRequest w .closeLink
  else if reqOp w = 0x03#8 then .instr (.sendCommand (reqSrc w) (reqDst w) (int16 (reqAngle w)))
  else if reqOp w = 0x04#8 then plainRequest w .pollStatus
  else .reserved .reservedOp

/-- A command frame read from its bytes (42_frame_codec.md R125); its length is fixed (30_encoding.md R87). -/
def decodeCommandFrame (p : Params) : List Byte → Decoded
  | [b0, b1, b2, b3, b4, b5, b6] =>
    match parseCommand p ⟨b0, b1, b2, b3, b4, b5, b6⟩ with
    | .decoded f => .instr (.commandFrame f.src f.dst f.angle f.ck)
    | .failed r => .badFrame r
  | _ => .badLength

/-- A status frame read from its bytes (42_frame_codec.md R124); its length is fixed (30_encoding.md R87). -/
def decodeStatusFrame (p : Params) : List Byte → Decoded
  | [b0, b1, b2, b3, b4, b5] =>
    match parseStatus p ⟨b0, b1, b2, b3, b4, b5⟩ with
    | .decoded f => .instr (.statusFrame f.src f.dst f.status f.ck)
    | .failed r => .badFrame r
  | _ => .badLength

/-- The decoder. The kind of a frame is fixed by where it stands, not by its bytes (30_encoding.md R70). -/
def decode (p : Params) : Encoded → Decoded
  | .request w path baud => decodeRequest w path baud
  | .wire .command bs => decodeCommandFrame p bs
  | .wire .status bs => decodeStatusFrame p bs

/-- The request word of SEND_COMMAND: `{word16(angle), dst, src, 0x03}` (30_encoding.md R78). -/
def sendWord (src dst : Nibble) (angle : Int) : Word32 := word16 angle ++ dst ++ src ++ (0x03#8 : Byte)

/-- The encoder (30_encoding.md R73, R74, R78, R79); a request without side operands carries an empty path and rate 0. -/
def encode (p : Params) : Instr → Encoded
  | .openLink path baud => .request 0x00000001#32 path baud
  | .closeLink => .request 0x00000002#32 [] 0
  | .sendCommand src dst angle => .request (sendWord src dst angle) [] 0
  | .pollStatus => .request 0x00000004#32 [] 0
  | .commandFrame src dst angle ck => .wire .command (bytes7List (layCommand p src dst angle ck))
  | .statusFrame src dst status ck => .wire .status (bytes6List (layStatus p src dst status ck))

/-- The bits an encoded form takes in opcode_table.json: a request word is 32 bits, a frame 8 per byte
(30_encoding.md R87). -/
def Encoded.nbits : Encoded → Nat
  | .request _ _ _ => 32
  | .wire _ bs => 8 * bs.length

/-- The bytes of a frame on the wire; a request has none. -/
def Encoded.wireBytes : Encoded → List Byte
  | .request _ _ _ => []
  | .wire _ bs => bs

/-- Byte `i` of a table word: bits `[8i+7 : 8i]`. -/
def tableByte (w i : Nat) : Byte := BitVec.ofNat 8 (w >>> (8 * i))

/-- The encoded form that a table word of `nbits` bits stands for: 32 bits are a request word (the side operands of
OPEN, which the table gives no bits, are zero: an empty path and rate 0), 56 bits a command frame, 48 bits a status
frame. DESIGN CHOICE (log entry 15). -/
def encodedOfTableWord (nbits w : Nat) : Option Encoded :=
  if nbits = 32 then some (.request (BitVec.ofNat 32 w) [] 0)
  else if nbits = 56 then
    some (.wire .command [tableByte w 0, tableByte w 1, tableByte w 2, tableByte w 3, tableByte w 4, tableByte w 5,
      tableByte w 6])
  else if nbits = 48 then
    some (.wire .status [tableByte w 0, tableByte w 1, tableByte w 2, tableByte w 3, tableByte w 4, tableByte w 5])
  else none

/-- The instruction a decoding gives, if any. -/
def Decoded.instr? : Decoded → Option Instr
  | .instr i => some i
  | .reserved _ => none
  | .badLength => none
  | .badFrame _ => none

/-- The instruction the decoder reads from a table word, under the machine's own parameters. -/
def decodeTableWord (nbits w : Nat) : Option Instr :=
  (encodedOfTableWord nbits w).bind fun e => (decode Config.params e).instr?

end Sys2Proof
end

