-- ==== Sys2Proof/Machine/State.lean ====
section
/-! DEFINITION. Machine/State.lean: the state of the block (10_state.md R21), what it reports, what stands between it
and its host and link environment, and the state after reset (70_reset_and_hazards.md R260). -/

namespace Sys2Proof.Machine

/-- `sess`, 2 bits; the value 3 is unused (10_state.md R21, R22). -/
inductive Sess where
  | closed
  | opened
  | powerless
  deriving DecidableEq, Repr

/-- `dec_state`, 2 bits (10_state.md R21). -/
inductive DecState where
  | idle
  | seek
  | readBody
  | validate
  deriving DecidableEq, Repr

/-- Response codes (30_encoding.md R82). -/
inductive RespCode where
  | ok
  | openFailure
  | timeout
  | magicMismatch
  | incompleteFrame
  | checksumMismatch
  | notOpen
  deriving DecidableEq, Repr

/-- The response record of each host operation (30_encoding.md R81). -/
inductive Response where
  | openLink (code : RespCode)
  | closeLink (code : RespCode)
  | sendCommand (code : RespCode)
  | pollStatus (code : RespCode) (frame : Option StatusFrame)
  deriving DecidableEq, Repr

/-- The `phase` of LOG_FRAME_TIMEOUT (30_encoding.md R83). -/
inductive LogPhase where
  | seek
  | body
  deriving DecidableEq, Repr

/-- Log events (30_encoding.md R83). -/
inductive LogEvent where
  | cannotOpen
  | frameTimeout (phase : LogPhase)
  | checksumMismatch (observed expected : Word16)
  deriving DecidableEq, Repr

/-- A record of `tx_trace`: the bytes of a `TxWrite` and how many were accepted (10_state.md R21). -/
structure TxRecord where
  bytes    : Bytes7 Byte
  accepted : Fin 8
  deriving DecidableEq, Repr

/-- E's answer to `RxByte` (00_scope.md R9). -/
inductive ByteAnswer where
  | byte (b : Byte)
  | timeout
  deriving DecidableEq, Repr

/-- E's answer to `RxBlock(n, t)` (00_scope.md R9): `n` bytes, or fewer. -/
inductive BlockAnswer where
  | bytes (bs : List Byte)
  | short (bs : List Byte)
  deriving DecidableEq, Repr

/-- The character format asked of the platform (44_link_session.md R194, 92 D30). -/
structure LineFormat where
  dataBits : Nat
  parity   : Bool
  stopBits : Nat
  deriving DecidableEq, Repr

/-- A link primitive as issued (00_scope.md R9); a read carries its budget in milliseconds and its answer. The body
budget is `none` where no rate is held, which no open session has (10_state.md R23): DESIGN CHOICE (log entry 13). -/
inductive LinkCall where
  | linkOpen (path : Path) (rate : Word32) (format : LineFormat)
  | linkClose (handle : Option LinkHandle)
  | rxByte (budget : Nat) (answer : ByteAnswer)
  | rxBlock (n : Nat) (budget : Option Nat) (answer : BlockAnswer)
  | txWrite (bytes : Bytes7 Byte)
  deriving DecidableEq, Repr

/-- The operation in progress while E has not answered its primitive (60_exceptions.md R234). -/
inductive Pending where
  | linkOpen (path : Path) (rate : Word32)
  | linkClose
  | txWrite (bytes : Bytes7 Byte)
  deriving DecidableEq, Repr

/-- The link environment E (10_state.md R20) as plain data: what it will deliver and answer, in order, and what lies
beyond these lists. Beyond them every answer is a free value at the counter `draws`, or, if `quiet`, the answer of the
queue oracle (20_memory.md R52). DESIGN CHOICE (log entries 2, 3, 4). -/
structure Env where
  rx     : List RxItem
  opens  : List OpenAnswer
  closes : List CloseAnswer
  writes : List WriteAnswer
  quiet  : Bool
  draws  : Nat
  deriving DecidableEq, Repr

/-- What can happen next at the block's borders, one at a time. -/
inductive Input where
  /-- H issues its next request (it waits for the previous response), or a frame's bytes arrive on RX. -/
  | encoded (e : Encoded)
  /-- A request by a second host agent, or before the previous one returned (60_exceptions.md R233). -/
  | intruder (e : Encoded)
  /-- A reset of the block (70_reset_and_hazards.md R260). -/
  | reset
  deriving DecidableEq, Repr

/-- The state. The first ten fields after `params` are the tuple of 10_state.md R21, in its order. -/
structure State where
  /-- The parameters of 00_scope.md R6, written by no step (10_state.md R30). Log entry 1. -/
  params    : Params
  /-- `sess` (10_state.md R21, R22). -/
  sess      : Sess
  /-- `handle` (10_state.md R21). -/
  handle    : Option LinkHandle
  /-- `baud` (10_state.md R21). -/
  baud      : Option Word32
  /-- `dec_state` (10_state.md R21). -/
  decState  : DecState
  /-- `seek_idx`, 1 bit (10_state.md R21). -/
  seekIdx   : BitVec 1
  /-- `rx_buf`, 6 bytes, `none` where unwritten (10_state.md R21, R25). -/
  rxBuf     : Bytes6 (Option Byte)
  /-- `tx_buf`, 7 bytes, `none` where unwritten (10_state.md R21, R26). -/
  txBuf     : Bytes7 (Option Byte)
  /-- `refused`, 1 bit, sticky (10_state.md R21, R28). -/
  refused   : Bool
  /-- `tx_trace` (10_state.md R21, R29). -/
  txTrace   : List TxRecord
  /-- `log_trace` (10_state.md R21, R29). -/
  logTrace  : List LogEvent
  /-- The responses returned so far, in order (30_encoding.md R81, 10_state.md R32). Log entry 12. -/
  respTrace : List Response
  /-- The link primitives issued so far, in order (00_scope.md R9). Log entry 12. -/
  issued    : List LinkCall
  /-- The refusals so far, in order (60_exceptions.md R233). Log entries 6, 12. -/
  refusals  : List RefusalReason
  /-- The operation in progress, if its primitive is unanswered (60_exceptions.md R234). Log entry 5. -/
  pending   : Option Pending
  /-- The link environment (10_state.md R20, R33). -/
  env       : Env
  /-- What happens next at the borders of the block. Log entry 8. -/
  inputs    : List Input
  deriving DecidableEq, Repr

/-- The block has no faults: no trap, no exception (60_exceptions.md R235, R238; 93_implementation_defined.md,
"fault: none occur"). An unanswered primitive is `Pending`, a failure is a response, a refusal is a mark. -/
inductive Fault where
  deriving DecidableEq, Repr

/-- Rejections of an instruction by the model. The spec's own refusals (60_exceptions.md R233) are not among them: they
set the mark `refused` in a next state. -/
inductive Refusal where
  /-- Raised by `exec` for an instruction that has no meaning yet; no arm raises it now. Safe. -/
  | notModelled (mnemonic : String)
  deriving DecidableEq, Repr

/-- E with nothing listed: every delivery and answer free. DESIGN CHOICE (log entries 2, 19). -/
def Env.free : Env := ⟨[], [], [], [], false, 0⟩

/-- Six unwritten bytes (70_reset_and_hazards.md R260). -/
def rxUnwritten : Bytes6 (Option Byte) := ⟨none, none, none, none, none, none⟩

/-- Seven unwritten bytes (70_reset_and_hazards.md R260). -/
def txUnwritten : Bytes7 (Option Byte) := ⟨none, none, none, none, none, none, none⟩

/-- The start of a model run: a reset with `refused = 0` and empty traces (70_reset_and_hazards.md R260). The fields
that are not of 10_state.md R21 have the values of log entries 1 and 19. -/
def State.reset : State where
  params := Config.params
  sess := .closed
  handle := none
  baud := none
  decState := .idle
  seekIdx := 0#1
  rxBuf := rxUnwritten
  txBuf := txUnwritten
  refused := false
  txTrace := []
  logTrace := []
  respTrace := []
  issued := []
  refusals := []
  pending := none
  env := Env.free
  inputs := []

end Sys2Proof.Machine
end

