-- ==== Sys2Proof/Machine/Flags.lean ====
section
/-! DEFINITION. Machine/Flags.lean: the block has no condition flags (10_state.md R31). What stands in their place:
the numbers of the codes and encodings, and the code and the log event that each outcome reports
(30_encoding.md R82, R83; 44_link_session.md R197; 60_exceptions.md R230). -/

namespace Sys2Proof.Machine

/-- The encoding of `sess` (10_state.md R21). -/
def Sess.code : Sess → BitVec 2
  | .closed => 0
  | .opened => 1
  | .powerless => 2

/-- The encoding of `dec_state` (10_state.md R21). -/
def DecState.code : DecState → BitVec 2
  | .idle => 0
  | .seek => 1
  | .readBody => 2
  | .validate => 3

/-- The number of a response code, 8 bits (30_encoding.md R82). -/
def RespCode.number : RespCode → Byte
  | .ok => 0
  | .openFailure => 1
  | .timeout => 2
  | .magicMismatch => 3
  | .incompleteFrame => 4
  | .checksumMismatch => 5
  | .notOpen => 6

/-- The number of a log event (30_encoding.md R83). -/
def LogEvent.number : LogEvent → Nat
  | .cannotOpen => 1
  | .frameTimeout _ => 2
  | .checksumMismatch _ _ => 3

/-- The number of a log phase (30_encoding.md R83). -/
def LogPhase.number : LogPhase → Nat
  | .seek => 0
  | .body => 1

/-- The `code` field of a response (30_encoding.md R81). -/
def Response.code : Response → RespCode
  | .openLink c => c
  | .closeLink c => c
  | .sendCommand c => c
  | .pollStatus c _ => c

/-- The response code of a failed decode cycle (44_link_session.md R197). -/
def failCode : FailReason → RespCode
  | .timeout => .timeout
  | .magicMismatch => .magicMismatch
  | .incompleteFrame => .incompleteFrame
  | .checksumMismatch _ _ => .checksumMismatch

/-- The log events of a failed decode cycle, at most one (44_link_session.md R197, 60_exceptions.md R230). -/
def failLog (p : Params) : FailReason → List LogEvent
  | .timeout => if p.logSeekTimeout then [.frameTimeout .seek] else []
  | .magicMismatch => []
  | .incompleteFrame => [.frameTimeout .body]
  | .checksumMismatch obs exp => [.checksumMismatch obs exp]

/-- The response of POLL_STATUS to an outcome (44_link_session.md R197). -/
def pollResponse : FrameOutcome StatusFrame → Response
  | .decoded f => .pollStatus .ok (some f)
  | .failed r => .pollStatus (failCode r) none

/-- The log events of POLL_STATUS for an outcome (44_link_session.md R197). -/
def pollLog (p : Params) : FrameOutcome StatusFrame → List LogEvent
  | .decoded _ => []
  | .failed r => failLog p r

end Sys2Proof.Machine
end

