-- ==== Sys2Proof/Machine/Ops.lean ====
section
/-! DEFINITION. Machine/Ops.lean: the named operations over the state: its updates, the link primitives
(00_scope.md R9), the timeout controller (44_link_session.md R190 to R192), refusing (00_scope.md R9), what a failure
does (60_exceptions.md R237) and a reset of the block (70_reset_and_hazards.md R260). -/

namespace Sys2Proof.Machine

/-! ### Updates -/

/-- `sess`, `handle` and `baud` are written together (10_state.md R23). -/
def State.setSession (s : State) (m : Sess) (h : Option LinkHandle) (b : Option Word32) : State :=
  { s with sess := m, handle := h, baud := b }

/-- Write `dec_state` and `seek_idx` (43_resync_decoder.md R152, R153, R155, R157). -/
def State.setDec (s : State) (d : DecState) (i : BitVec 1) : State := { s with decState := d, seekIdx := i }

/-- Write `rx_buf`. -/
def State.setRxBuf (s : State) (b : Bytes6 (Option Byte)) : State := { s with rxBuf := b }

/-- Write `tx_buf` whole (10_state.md R26). -/
def State.setTxBuf (s : State) (b : Bytes7 Byte) : State :=
  { s with txBuf := ⟨some b.b0, some b.b1, some b.b2, some b.b3, some b.b4, some b.b5, some b.b6⟩ }

/-- Append a record to `tx_trace` (44_link_session.md R196). -/
def State.addTx (s : State) (r : TxRecord) : State := { s with txTrace := s.txTrace ++ [r] }

/-- `Log`, for each event in order (00_scope.md R9). -/
def State.addLog (s : State) (es : List LogEvent) : State := { s with logTrace := s.logTrace ++ es }

/-- `return r`: the response of the operation (00_scope.md R8, 30_encoding.md R81). -/
def State.respond (s : State) (r : Response) : State := { s with respTrace := s.respTrace ++ [r] }

/-- Record a primitive as issued. -/
def State.issue (s : State) (c : LinkCall) : State := { s with issued := s.issued ++ [c] }

/-- `refuse(reason)`: the mark is set, and nothing else of the block changes (00_scope.md R9, 30_encoding.md R80). -/
def State.refuse (s : State) (r : RefusalReason) : State :=
  { s with refused := true, refusals := s.refusals ++ [r] }

/-- Write the operation in progress (60_exceptions.md R234). -/
def State.setPending (s : State) (p : Option Pending) : State := { s with pending := p }

/-- Write E. -/
def State.setEnv (s : State) (e : Env) : State := { s with env := e }

/-- Write the inputs to come. -/
def State.setInputs (s : State) (l : List Input) : State := { s with inputs := l }

/-- The first input is taken. -/
def State.dropInput (s : State) : State := s.setInputs s.inputs.tail

/-! ### The environment's deliveries and answers -/

/-- The next item of the RX stream, consumed (20_memory.md R51). Beyond the list: a silence under the queue oracle
(20_memory.md R52), else a free value. -/
def Env.takeRx (e : Env) : RxItem × Env :=
  match e.rx with
  | x :: xs => (x, { e with rx := xs })
  | [] => if e.quiet then (.gap, e) else (Config.rxItem e.draws, { e with draws := e.draws + 1 })

/-- At most `n` bytes of the RX stream, up to the first silence, consumed (20_memory.md R51, R60). -/
def Env.takeBlock : Nat → Env → List Byte × Env
  | 0, e => ([], e)
  | n + 1, e =>
    match e.takeRx with
    | (.gap, e1) => ([], e1)
    | (.byte b, e1) => (b :: (Env.takeBlock n e1).1, (Env.takeBlock n e1).2)

/-- E's next answer to `LinkOpen` (60_exceptions.md R240). -/
def Env.takeOpen (e : Env) : OpenAnswer × Env :=
  match e.opens with
  | x :: xs => (x, { e with opens := xs })
  | [] => (Config.openAnswer e.draws, { e with draws := e.draws + 1 })

/-- E's next answer to `LinkClose` (60_exceptions.md R240). -/
def Env.takeClose (e : Env) : CloseAnswer × Env :=
  match e.closes with
  | x :: xs => (x, { e with closes := xs })
  | [] => if e.quiet then (.done, e) else (Config.closeAnswer e.draws, { e with draws := e.draws + 1 })

/-- E's next answer to a `TxWrite` of 7 bytes (60_exceptions.md R240); the queue oracle accepts all
(20_memory.md R52). -/
def Env.takeWrite (e : Env) : WriteAnswer × Env :=
  match e.writes with
  | x :: xs => (x, { e with writes := xs })
  | [] => if e.quiet then (.done 7, e) else (Config.writeAnswer e.draws, { e with draws := e.draws + 1 })

/-- Bytes that arrive join the RX stream behind what is already there (20_memory.md R51, 60_exceptions.md R235). -/
def State.deliver (s : State) (bs : List Byte) : State :=
  s.setEnv { s.env with rx := s.env.rx ++ bs.map RxItem.byte }

/-! ### The timeout controller -/

/-- `T_BODY_MS(rate)` for `rate > 0` (44_link_session.md R192). -/
def tBodyMs (rate : Nat) : Nat := (10 * statusFrameSize * 1000) / rate * 2 + 5

/-- The budget of the body read (44_link_session.md R192): of the rate held. -/
def State.bodyBudget (s : State) : Option Nat := s.baud.map fun r => tBodyMs r.toNat

/-! ### The read primitives -/

/-- The answer of `RxByte` that an item of the stream gives (20_memory.md R51). -/
def byteAnswer : RxItem → ByteAnswer
  | .byte b => .byte b
  | .gap => .timeout

/-- The answer of `RxBlock(n, t)` that the bytes read give (00_scope.md R9). -/
def blockAnswer (n : Nat) (bs : List Byte) : BlockAnswer := if bs.length = n then .bytes bs else .short bs

/-- `RxByte(P_T_BYTE_MS)` (44_link_session.md R191): the answer, and the state after it. -/
def State.rxByte (s : State) : ByteAnswer × State :=
  (byteAnswer s.env.takeRx.1,
    (s.setEnv s.env.takeRx.2).issue (.rxByte s.params.tByteMs (byteAnswer s.env.takeRx.1)))

/-- `RxBlock(BODY_SIZE, T_BODY_MS(baud))` (43_resync_decoder.md R155): the answer, and the state after it. -/
def State.rxBlock (s : State) : BlockAnswer × State :=
  (blockAnswer bodySize (Env.takeBlock bodySize s.env).1,
    (s.setEnv (Env.takeBlock bodySize s.env).2).issue
      (.rxBlock bodySize s.bodyBudget (blockAnswer bodySize (Env.takeBlock bodySize s.env).1)))

/-! ### The receive buffer -/

/-- `rx_buf[i] <- b` for a seek byte, `i` 0 or 1 (43_resync_decoder.md R153). -/
def State.writeSeek (s : State) (i : BitVec 1) (b : Byte) : State :=
  s.setRxBuf (if i = 0#1 then { s.rxBuf with b0 := some b } else { s.rxBuf with b1 := some b })

/-- `rx_buf[2..6) <- bs` (43_resync_decoder.md R155). -/
def State.writeBody (s : State) (c0 c1 c2 c3 : Byte) : State :=
  s.setRxBuf { s.rxBuf with b2 := some c0, b3 := some c1, b4 := some c2, b5 := some c3 }

/-- Reading a byte of `rx_buf`; an unwritten one, which no rule reads (10_state.md R25), is a free value
(93 I11, log entry 11). -/
def readSlot (offset : Nat) (b : Option Byte) : Byte := b.getD (Config.unwrittenByte offset)

/-! ### Failures, refusals, reset -/

/-- What reaching a terminal outcome does (43_resync_decoder.md R157, 60_exceptions.md R237). -/
def State.terminal (s : State) : State := s.setDec .idle 0#1

/-- What a failed OPEN does (44_link_session.md R194, 60_exceptions.md R230). -/
def State.openFailed (s : State) : State :=
  ((s.setSession .powerless none none).addLog [.cannotOpen]).respond (.openLink .openFailure)

/-- A request while another operation has not returned is refused (60_exceptions.md R233), and for that reason alone:
DESIGN CHOICE (log entry 24). Otherwise the operation runs. -/
def State.whenIdle (s : State) (run : State → State) : State :=
  if s.pending.isSome then s.refuse .concurrentCaller else run s

/-- A reset of the block: the reset values of R260, no primitive and a held handle abandoned (R261); `refused` and the
histories of the run stay (70_reset_and_hazards.md R260, R261). E's RX stream is left alone: DEDUCED (log entry 10). An
operation in progress is dropped at once, without a response: the model's own, DESIGN CHOICE (log entry 23). -/
def State.blockReset (s : State) : State :=
  { s with
    sess := .closed, handle := none, baud := none, decState := .idle, seekIdx := 0#1
    rxBuf := rxUnwritten, txBuf := txUnwritten, pending := none }

end Sys2Proof.Machine
end

