-- ==== Sys2Proof/Machine/Decoder.lean ====
section
/-! DEFINITION. Machine/Decoder.lean: the resynchronizing decoder (43_resync_decoder.md): its steps, the transition
table of R151 and the decode cycle of R159. -/

namespace Sys2Proof.Machine

/-- What a step of the decode cycle gives: the cycle goes on, or it has reached a terminal outcome. -/
inductive CycleStep where
  | go (s : State)
  | stop (o : FrameOutcome StatusFrame) (s : State)
  deriving DecidableEq, Repr

/-- Entry (43_resync_decoder.md R152). -/
def State.enterCycle (s : State) : State := s.setDec .seek 0#1

/-- Seek, after a byte `b` has arrived: it is stored and compared (43_resync_decoder.md R153); there is no re-anchoring
(R154). -/
def seekByte (i : BitVec 1) (b : Byte) (s : State) : CycleStep :=
  if b ≠ magicWire s.params i then .stop (.failed .magicMismatch) (s.writeSeek i b).terminal
  else if i = 0#1 then .go ((s.writeSeek i b).setDec .seek 1#1)
  else .go ((s.writeSeek i b).setDec .readBody 0#1)

/-- SEEK (43_resync_decoder.md R153). -/
def seekStep (s : State) : CycleStep :=
  match s.rxByte with
  | (.timeout, s1) => .stop (.failed .timeout) s1.terminal
  | (.byte b, s1) => seekByte s.seekIdx b s1

/-- READ_BODY (43_resync_decoder.md R155); the bytes of a `Short` answer are discarded. -/
def readBodyStep (s : State) : CycleStep :=
  match s.rxBlock with
  | (.bytes [c0, c1, c2, c3], s1) => .go ((s1.writeBody c0 c1 c2 c3).setDec .validate s1.seekIdx)
  | (_, s1) => .stop (.failed .incompleteFrame) s1.terminal

/-- The outcome of VALIDATE over the receive buffer (43_resync_decoder.md R156); no header check (R161). -/
def bufferOutcome (p : Params) (b : Bytes6 (Option Byte)) : FrameOutcome StatusFrame :=
  statusVerdict p (readSlot 2 b.b2) (readSlot 3 b.b3) (readSlot 4 b.b4) (readSlot 5 b.b5)

/-- VALIDATE (43_resync_decoder.md R156): no I/O, and always terminal (R157). -/
def validateStep (s : State) : FrameOutcome StatusFrame × State :=
  (bufferOutcome s.params s.rxBuf, s.terminal)

/-- The transition table of the decoder, driven by `dec_state` and `seek_idx` (43_resync_decoder.md R151). -/
def cycleStep (s : State) : CycleStep :=
  match s.decState with
  | .idle => .go s.enterCycle
  | .seek => seekStep s
  | .readBody => readBodyStep s
  | .validate => .stop (validateStep s).1 (validateStep s).2

/-- `n` transitions of the table, fewer if a terminal outcome comes first (43_resync_decoder.md R151). -/
def runCycle : Nat → State → CycleStep
  | 0, s => .go s
  | n + 1, s =>
    match cycleStep s with
    | .go s1 => runCycle n s1
    | .stop o s1 => .stop o s1

/-- The rest of a cycle after a step. -/
def CycleStep.thenDo (c : CycleStep) (k : State → FrameOutcome StatusFrame × State) :
    FrameOutcome StatusFrame × State :=
  match c with
  | .go s => k s
  | .stop o s => (o, s)

/-- The body read and the validation. -/
def afterMagic (s : State) : FrameOutcome StatusFrame × State := (readBodyStep s).thenDo validateStep

/-- One decode cycle, from IDLE back to IDLE (43_resync_decoder.md R150, R159). -/
def decodeCycle (s : State) : FrameOutcome StatusFrame × State :=
  (seekStep s.enterCycle).thenDo fun s1 => (seekStep s1).thenDo afterMagic

end Sys2Proof.Machine
end

