-- ==== Sys2Proof/Machine/Session.lean ====
section
/-! DEFINITION. Machine/Session.lean: the four host operations of the link session (44_link_session.md R194 to R197),
and an operation resumed when its primitive had not been answered (60_exceptions.md R234). Each ends in a next state on
every path. -/

namespace Sys2Proof.Machine

/-- What a step of this machine answers with. -/
abbrev Result := Host.Outcome State Fault Refusal

/-! ### OPEN -/

/-- E's answer to `LinkOpen`, or waiting for it (44_link_session.md R194, 60_exceptions.md R234). -/
def awaitLinkOpen (path : Path) (rate : Word32) (s : State) : State :=
  match s.env.takeOpen with
  | (.ok h, e) => (((s.setEnv e).setPending none).setSession .opened (some h) (some rate)).respond (.openLink .ok)
  | (.fail, e) => ((s.setEnv e).setPending none).openFailed
  | (.notYet, e) => (s.setEnv e).setPending (some (.linkOpen path rate))

/-- The character format asked for: 8 data bits, no parity, 1 stop bit (44_link_session.md R194, 92 D30). DEDUCED (log
entry 20). -/
def lineFormat : LineFormat := ⟨8, false, 1⟩

/-- OPEN when no operation is in progress (44_link_session.md R194; order of the checks 60_exceptions.md R236). -/
def openLink (path : Path) (rate : Word32) (s : State) : State :=
  if s.sess = .opened then s.refuse .openWhileOpen
  else if rate = 0#32 then s.openFailed
  else awaitLinkOpen path rate (s.issue (.linkOpen path rate lineFormat))

/-- OPEN (44_link_session.md R194). -/
def execOpen (path : Path) (rate : Word32) (s : State) : Result := .next (s.whenIdle (openLink path rate))

/-! ### CLOSE -/

/-- The session closed and the response given (44_link_session.md R195). -/
def State.finishClose (s : State) : State := (s.setSession .closed none none).respond (.closeLink .ok)

/-- E's answer to `LinkClose`, or waiting for it (44_link_session.md R195, 60_exceptions.md R234). -/
def awaitLinkClose (s : State) : State :=
  match s.env.takeClose with
  | (.done, e) => ((s.setEnv e).setPending none).finishClose
  | (.notYet, e) => (s.setEnv e).setPending (some .linkClose)

/-- CLOSE when no operation is in progress (44_link_session.md R195). -/
def closeLink (s : State) : State :=
  if s.sess = .opened then awaitLinkClose (s.issue (.linkClose s.handle)) else s.finishClose

/-- CLOSE (44_link_session.md R195). -/
def execClose (s : State) : Result := .next (s.whenIdle closeLink)

/-! ### SEND_COMMAND -/

/-- E's answer to `TxWrite`, or waiting for it (44_link_session.md R196, R200; 60_exceptions.md R234). -/
def awaitTxWrite (bs : Bytes7 Byte) (s : State) : State :=
  match s.env.takeWrite with
  | (.done k, e) => (((s.setEnv e).setPending none).addTx ⟨bs, k⟩).respond (.sendCommand .ok)
  | (.notYet, e) => (s.setEnv e).setPending (some (.txWrite bs))

/-- SEND_COMMAND when no operation is in progress (44_link_session.md R196). -/
def sendCommand (src dst : Nibble) (angle : Int) (s : State) : State :=
  if s.sess = .opened then
    awaitTxWrite (encodeCommand s.params src dst angle)
      ((s.setTxBuf (encodeCommand s.params src dst angle)).issue (.txWrite (encodeCommand s.params src dst angle)))
  else s.respond (.sendCommand .notOpen)

/-- SEND_COMMAND (44_link_session.md R196). -/
def execSendCommand (src dst : Nibble) (angle : Int) (s : State) : Result :=
  .next (s.whenIdle (sendCommand src dst angle))

/-! ### POLL_STATUS -/

/-- The log event and the response of an outcome (44_link_session.md R197). -/
def reportOutcome (o : FrameOutcome StatusFrame) (s : State) : State :=
  (s.addLog (pollLog s.params o)).respond (pollResponse o)

/-- POLL_STATUS when no operation is in progress (44_link_session.md R197). -/
def pollStatus (s : State) : State :=
  if s.sess = .opened then reportOutcome (decodeCycle s).1 (decodeCycle s).2
  else s.respond (.pollStatus .notOpen none)

/-- POLL_STATUS (44_link_session.md R197). -/
def execPollStatus (s : State) : Result := .next (s.whenIdle pollStatus)

/-! ### An operation in progress -/

/-- The operation in progress looks for E's answer again (60_exceptions.md R234: a stuck state is not final). -/
def resume (op : Pending) (s : State) : State :=
  match op with
  | .linkOpen path rate => awaitLinkOpen path rate s
  | .linkClose => awaitLinkClose s
  | .txWrite bs => awaitTxWrite bs s

end Sys2Proof.Machine
end

