-- ==== Sys2Proof/Machine/Wire.lean ====
section
/-! DEFINITION. Machine/Wire.lean: the two wire frames as events of the link environment. A frame's bytes arrive on RX
and wait there for the next decode cycle; the block is not told (60_exceptions.md R235). DESIGN CHOICE (log entry 9). -/

namespace Sys2Proof.Machine

/-- COMMAND_FRAME: the seven bytes of R73 arrive on RX, foreign traffic that no rule filters (43_resync_decoder.md
R166, 70_reset_and_hazards.md R271). For a well-formed instruction they are ENCODE_COMMAND (42_frame_codec.md R122). The
block's own sending of one is SEND_COMMAND alone (20_memory.md R50). -/
def execCommandFrame (src dst : Nibble) (angle : Int) (ck : Word16) (s : State) : Result :=
  .next (s.deliver (bytes7List (layCommand s.params src dst angle ck)))

/-- STATUS_FRAME: the six bytes of R74 arrive on RX and wait for a decode cycle (60_exceptions.md R235), whose outcome
on them is PARSE_STATUS (42_frame_codec.md R124, 43_resync_decoder.md R160). For a well-formed instruction they are
ENCODE_STATUS (42_frame_codec.md R123). -/
def execStatusFrame (src dst : Nibble) (status : Byte) (ck : Word16) (s : State) : Result :=
  .next (s.deliver (bytes6List (layStatus s.params src dst status ck)))

end Sys2Proof.Machine
end

