-- ==== Sys2Proof/Machine/Dispatch.lean ====
section
/-! DEFINITION. Machine/Dispatch.lean: one arm per instruction (44_link_session.md R201). -/

namespace Sys2Proof.Machine

def exec (i : Instr) (s : State) : Host.Outcome State Fault Refusal :=
  match i with
  | .openLink path baud => Sys2Proof.Machine.execOpen path baud s
  | .closeLink => Sys2Proof.Machine.execClose s
  | .sendCommand src dst angle => Sys2Proof.Machine.execSendCommand src dst angle s
  | .pollStatus => Sys2Proof.Machine.execPollStatus s
  | .commandFrame src dst angle ck => Sys2Proof.Machine.execCommandFrame src dst angle ck s
  | .statusFrame src dst status ck => Sys2Proof.Machine.execStatusFrame src dst status ck s

end Sys2Proof.Machine
end

