-- ==== Sys2Proof/Machine/Fetch.lean ====
section
/-! DEFINITION. Machine/Fetch.lean: what the machine does next. The block fetches no instructions (20_memory.md R67):
its operations arrive from the host one at a time (10_state.md R31), and `State.inputs` holds what arrives. -/

namespace Sys2Proof.Machine

/-- What a step does. -/
inductive Fetched where
  /-- Nothing arrives: the block waits (70_reset_and_hazards.md R261). -/
  | wait
  /-- The operation in progress looks for E's answer (60_exceptions.md R234). -/
  | resume (op : Pending)
  /-- A reset of the block (70_reset_and_hazards.md R260). -/
  | reset
  /-- An instruction is run. -/
  | run (i : Instr)
  /-- A request is refused (60_exceptions.md R233). -/
  | refuse (r : RefusalReason)
  /-- Bytes arrive that are no frame of their kind (20_memory.md R51: any bytes may). -/
  | noise (bs : List Byte)
  deriving DecidableEq, Repr

/-- What a decoding has the machine do. -/
def fetchedOf (bs : List Byte) : Decoded → Fetched
  | .instr i => .run i
  | .reserved r => .refuse r
  | .badLength => .noise bs
  | .badFrame _ => .noise bs

/-- A host request waits while another operation is in progress, because H issues no new request until the previous one
is answered (10_state.md R20); a frame arrives at any time. -/
def Encoded.waits (e : Encoded) (pending : Option Pending) : Option Pending :=
  match e with
  | .request _ _ _ => pending
  | .wire _ _ => none

/-- What the next input has the machine do. A reset is taken at once, also with an operation in progress: DESIGN CHOICE
(log entry 23). A concurrent caller's word is not looked at, so its refusal has that reason whatever else would refuse it:
DESIGN CHOICE (log entry 24). -/
def fetch (s : State) : Fetched :=
  match s.inputs with
  | [] =>
    match s.pending with
    | none => .wait
    | some op => .resume op
  | .reset :: _ => .reset
  | .intruder _ :: _ => .refuse .concurrentCaller
  | .encoded e :: _ =>
    match Encoded.waits e s.pending with
    | some op => .resume op
    | none => fetchedOf e.wireBytes (decode s.params e)

/-- The input that a table word stands for (see `encodedOfTableWord`). -/
def tableInput (nbits w : Nat) : List Input :=
  match encodedOfTableWord nbits w with
  | some e => [.encoded e]
  | none => []

end Sys2Proof.Machine
end

