-- ==== Sys2Proof/Machine/Step.lean ====
section
/-! DEFINITION. Machine/Step.lean: one step: the next input is taken and run (20_memory.md R64). -/

namespace Sys2Proof.Machine

/-- One step: one host request to its response or to the wait for an unanswered primitive, one arrival, one reset, or
one more look for E's answer. DESIGN CHOICE (log entry 21). -/
def step (s : State) : Host.Outcome State Fault Refusal :=
  match fetch s with
  | .wait => .next s
  | .resume op => .next (resume op s)
  | .reset => .next s.dropInput.blockReset
  | .run i => exec i s.dropInput
  | .refuse r => .next (s.dropInput.refuse r)
  | .noise bs => .next (s.dropInput.deliver bs)

/-- `s` with the instruction of a table word as the next input and no operation in progress, so that the next step runs
it. This stands for H issuing the request, or for E delivering the frame (log entry 8). -/
def State.withFetchWord (s : State) (nbits w : Nat) : State :=
  (s.setInputs (tableInput nbits w ++ s.inputs)).setPending none

end Sys2Proof.Machine
end

