-- ==== Sys2Proof/Laws/State.lean ====
section
/-! SUPPORT. Laws/State.lean: one lemma per field per update of the state, so that no proof unfolds a record update. -/

namespace Sys2Proof.Machine

/-! ### setSession -/

@[simp] theorem State.setSession_params (s : State) (m : Sess) (h : Option LinkHandle) (b : Option Word32) :
    (s.setSession m h b).params = s.params := rfl
@[simp] theorem State.setSession_sess (s : State) (m : Sess) (h : Option LinkHandle) (b : Option Word32) :
    (s.setSession m h b).sess = m := rfl
@[simp] theorem State.setSession_handle (s : State) (m : Sess) (h : Option LinkHandle) (b : Option Word32) :
    (s.setSession m h b).handle = h := rfl
@[simp] theorem State.setSession_baud (s : State) (m : Sess) (h : Option LinkHandle) (b : Option Word32) :
    (s.setSession m h b).baud = b := rfl
@[simp] theorem State.setSession_decState (s : State) (m : Sess) (h : Option LinkHandle) (b : Option Word32) :
    (s.setSession m h b).decState = s.decState := rfl
@[simp] theorem State.setSession_seekIdx (s : State) (m : Sess) (h : Option LinkHandle) (b : Option Word32) :
    (s.setSession m h b).seekIdx = s.seekIdx := rfl
@[simp] theorem State.setSession_rxBuf (s : State) (m : Sess) (h : Option LinkHandle) (b : Option Word32) :
    (s.setSession m h b).rxBuf = s.rxBuf := rfl
@[simp] theorem State.setSession_txBuf (s : State) (m : Sess) (h : Option LinkHandle) (b : Option Word32) :
    (s.setSession m h b).txBuf = s.txBuf := rfl
@[simp] theorem State.setSession_refused (s : State) (m : Sess) (h : Option LinkHandle) (b : Option Word32) :
    (s.setSession m h b).refused = s.refused := rfl
@[simp] theorem State.setSession_txTrace (s : State) (m : Sess) (h : Option LinkHandle) (b : Option Word32) :
    (s.setSession m h b).txTrace = s.txTrace := rfl
@[simp] theorem State.setSession_logTrace (s : State) (m : Sess) (h : Option LinkHandle) (b : Option Word32) :
    (s.setSession m h b).logTrace = s.logTrace := rfl
@[simp] theorem State.setSession_respTrace (s : State) (m : Sess) (h : Option LinkHandle) (b : Option Word32) :
    (s.setSession m h b).respTrace = s.respTrace := rfl
@[simp] theorem State.setSession_issued (s : State) (m : Sess) (h : Option LinkHandle) (b : Option Word32) :
    (s.setSession m h b).issued = s.issued := rfl
@[simp] theorem State.setSession_refusals (s : State) (m : Sess) (h : Option LinkHandle) (b : Option Word32) :
    (s.setSession m h b).refusals = s.refusals := rfl
@[simp] theorem State.setSession_pending (s : State) (m : Sess) (h : Option LinkHandle) (b : Option Word32) :
    (s.setSession m h b).pending = s.pending := rfl
@[simp] theorem State.setSession_env (s : State) (m : Sess) (h : Option LinkHandle) (b : Option Word32) :
    (s.setSession m h b).env = s.env := rfl
@[simp] theorem State.setSession_inputs (s : State) (m : Sess) (h : Option LinkHandle) (b : Option Word32) :
    (s.setSession m h b).inputs = s.inputs := rfl

/-! ### setDec -/

@[simp] theorem State.setDec_params (s : State) (d : DecState) (i : BitVec 1) :
    (s.setDec d i).params = s.params := rfl
@[simp] theorem State.setDec_sess (s : State) (d : DecState) (i : BitVec 1) :
    (s.setDec d i).sess = s.sess := rfl
@[simp] theorem State.setDec_handle (s : State) (d : DecState) (i : BitVec 1) :
    (s.setDec d i).handle = s.handle := rfl
@[simp] theorem State.setDec_baud (s : State) (d : DecState) (i : BitVec 1) :
    (s.setDec d i).baud = s.baud := rfl
@[simp] theorem State.setDec_decState (s : State) (d : DecState) (i : BitVec 1) :
    (s.setDec d i).decState = d := rfl
@[simp] theorem State.setDec_seekIdx (s : State) (d : DecState) (i : BitVec 1) :
    (s.setDec d i).seekIdx = i := rfl
@[simp] theorem State.setDec_rxBuf (s : State) (d : DecState) (i : BitVec 1) :
    (s.setDec d i).rxBuf = s.rxBuf := rfl
@[simp] theorem State.setDec_txBuf (s : State) (d : DecState) (i : BitVec 1) :
    (s.setDec d i).txBuf = s.txBuf := rfl
@[simp] theorem State.setDec_refused (s : State) (d : DecState) (i : BitVec 1) :
    (s.setDec d i).refused = s.refused := rfl
@[simp] theorem State.setDec_txTrace (s : State) (d : DecState) (i : BitVec 1) :
    (s.setDec d i).txTrace = s.txTrace := rfl
@[simp] theorem State.setDec_logTrace (s : State) (d : DecState) (i : BitVec 1) :
    (s.setDec d i).logTrace = s.logTrace := rfl
@[simp] theorem State.setDec_respTrace (s : State) (d : DecState) (i : BitVec 1) :
    (s.setDec d i).respTrace = s.respTrace := rfl
@[simp] theorem State.setDec_issued (s : State) (d : DecState) (i : BitVec 1) :
    (s.setDec d i).issued = s.issued := rfl
@[simp] theorem State.setDec_refusals (s : State) (d : DecState) (i : BitVec 1) :
    (s.setDec d i).refusals = s.refusals := rfl
@[simp] theorem State.setDec_pending (s : State) (d : DecState) (i : BitVec 1) :
    (s.setDec d i).pending = s.pending := rfl
@[simp] theorem State.setDec_env (s : State) (d : DecState) (i : BitVec 1) :
    (s.setDec d i).env = s.env := rfl
@[simp] theorem State.setDec_inputs (s : State) (d : DecState) (i : BitVec 1) :
    (s.setDec d i).inputs = s.inputs := rfl

/-! ### setRxBuf -/

@[simp] theorem State.setRxBuf_params (s : State) (b : Bytes6 (Option Byte)) :
    (s.setRxBuf b).params = s.params := rfl
@[simp] theorem State.setRxBuf_sess (s : State) (b : Bytes6 (Option Byte)) :
    (s.setRxBuf b).sess = s.sess := rfl
@[simp] theorem State.setRxBuf_handle (s : State) (b : Bytes6 (Option Byte)) :
    (s.setRxBuf b).handle = s.handle := rfl
@[simp] theorem State.setRxBuf_baud (s : State) (b : Bytes6 (Option Byte)) :
    (s.setRxBuf b).baud = s.baud := rfl
@[simp] theorem State.setRxBuf_decState (s : State) (b : Bytes6 (Option Byte)) :
    (s.setRxBuf b).decState = s.decState := rfl
@[simp] theorem State.setRxBuf_seekIdx (s : State) (b : Bytes6 (Option Byte)) :
    (s.setRxBuf b).seekIdx = s.seekIdx := rfl
@[simp] theorem State.setRxBuf_rxBuf (s : State) (b : Bytes6 (Option Byte)) :
    (s.setRxBuf b).rxBuf = b := rfl
@[simp] theorem State.setRxBuf_txBuf (s : State) (b : Bytes6 (Option Byte)) :
    (s.setRxBuf b).txBuf = s.txBuf := rfl
@[simp] theorem State.setRxBuf_refused (s : State) (b : Bytes6 (Option Byte)) :
    (s.setRxBuf b).refused = s.refused := rfl
@[simp] theorem State.setRxBuf_txTrace (s : State) (b : Bytes6 (Option Byte)) :
    (s.setRxBuf b).txTrace = s.txTrace := rfl
@[simp] theorem State.setRxBuf_logTrace (s : State) (b : Bytes6 (Option Byte)) :
    (s.setRxBuf b).logTrace = s.logTrace := rfl
@[simp] theorem State.setRxBuf_respTrace (s : State) (b : Bytes6 (Option Byte)) :
    (s.setRxBuf b).respTrace = s.respTrace := rfl
@[simp] theorem State.setRxBuf_issued (s : State) (b : Bytes6 (Option Byte)) :
    (s.setRxBuf b).issued = s.issued := rfl
@[simp] theorem State.setRxBuf_refusals (s : State) (b : Bytes6 (Option Byte)) :
    (s.setRxBuf b).refusals = s.refusals := rfl
@[simp] theorem State.setRxBuf_pending (s : State) (b : Bytes6 (Option Byte)) :
    (s.setRxBuf b).pending = s.pending := rfl
@[simp] theorem State.setRxBuf_env (s : State) (b : Bytes6 (Option Byte)) :
    (s.setRxBuf b).env = s.env := rfl
@[simp] theorem State.setRxBuf_inputs (s : State) (b : Bytes6 (Option Byte)) :
    (s.setRxBuf b).inputs = s.inputs := rfl

/-! ### setTxBuf -/

@[simp] theorem State.setTxBuf_params (s : State) (b : Bytes7 Byte) :
    (s.setTxBuf b).params = s.params := rfl
@[simp] theorem State.setTxBuf_sess (s : State) (b : Bytes7 Byte) :
    (s.setTxBuf b).sess = s.sess := rfl
@[simp] theorem State.setTxBuf_handle (s : State) (b : Bytes7 Byte) :
    (s.setTxBuf b).handle = s.handle := rfl
@[simp] theorem State.setTxBuf_baud (s : State) (b : Bytes7 Byte) :
    (s.setTxBuf b).baud = s.baud := rfl
@[simp] theorem State.setTxBuf_decState (s : State) (b : Bytes7 Byte) :
    (s.setTxBuf b).decState = s.decState := rfl
@[simp] theorem State.setTxBuf_seekIdx (s : State) (b : Bytes7 Byte) :
    (s.setTxBuf b).seekIdx = s.seekIdx := rfl
@[simp] theorem State.setTxBuf_rxBuf (s : State) (b : Bytes7 Byte) :
    (s.setTxBuf b).rxBuf = s.rxBuf := rfl
@[simp] theorem State.setTxBuf_txBuf (s : State) (b : Bytes7 Byte) :
    (s.setTxBuf b).txBuf = ⟨some b.b0, some b.b1, some b.b2, some b.b3, some b.b4, some b.b5, some b.b6⟩ := rfl
@[simp] theorem State.setTxBuf_refused (s : State) (b : Bytes7 Byte) :
    (s.setTxBuf b).refused = s.refused := rfl
@[simp] theorem State.setTxBuf_txTrace (s : State) (b : Bytes7 Byte) :
    (s.setTxBuf b).txTrace = s.txTrace := rfl
@[simp] theorem State.setTxBuf_logTrace (s : State) (b : Bytes7 Byte) :
    (s.setTxBuf b).logTrace = s.logTrace := rfl
@[simp] theorem State.setTxBuf_respTrace (s : State) (b : Bytes7 Byte) :
    (s.setTxBuf b).respTrace = s.respTrace := rfl
@[simp] theorem State.setTxBuf_issued (s : State) (b : Bytes7 Byte) :
    (s.setTxBuf b).issued = s.issued := rfl
@[simp] theorem State.setTxBuf_refusals (s : State) (b : Bytes7 Byte) :
    (s.setTxBuf b).refusals = s.refusals := rfl
@[simp] theorem State.setTxBuf_pending (s : State) (b : Bytes7 Byte) :
    (s.setTxBuf b).pending = s.pending := rfl
@[simp] theorem State.setTxBuf_env (s : State) (b : Bytes7 Byte) :
    (s.setTxBuf b).env = s.env := rfl
@[simp] theorem State.setTxBuf_inputs (s : State) (b : Bytes7 Byte) :
    (s.setTxBuf b).inputs = s.inputs := rfl

/-! ### addTx -/

@[simp] theorem State.addTx_params (s : State) (r : TxRecord) :
    (s.addTx r).params = s.params := rfl
@[simp] theorem State.addTx_sess (s : State) (r : TxRecord) :
    (s.addTx r).sess = s.sess := rfl
@[simp] theorem State.addTx_handle (s : State) (r : TxRecord) :
    (s.addTx r).handle = s.handle := rfl
@[simp] theorem State.addTx_baud (s : State) (r : TxRecord) :
    (s.addTx r).baud = s.baud := rfl
@[simp] theorem State.addTx_decState (s : State) (r : TxRecord) :
    (s.addTx r).decState = s.decState := rfl
@[simp] theorem State.addTx_seekIdx (s : State) (r : TxRecord) :
    (s.addTx r).seekIdx = s.seekIdx := rfl
@[simp] theorem State.addTx_rxBuf (s : State) (r : TxRecord) :
    (s.addTx r).rxBuf = s.rxBuf := rfl
@[simp] theorem State.addTx_txBuf (s : State) (r : TxRecord) :
    (s.addTx r).txBuf = s.txBuf := rfl
@[simp] theorem State.addTx_refused (s : State) (r : TxRecord) :
    (s.addTx r).refused = s.refused := rfl
@[simp] theorem State.addTx_txTrace (s : State) (r : TxRecord) :
    (s.addTx r).txTrace = s.txTrace ++ [r] := rfl
@[simp] theorem State.addTx_logTrace (s : State) (r : TxRecord) :
    (s.addTx r).logTrace = s.logTrace := rfl
@[simp] theorem State.addTx_respTrace (s : State) (r : TxRecord) :
    (s.addTx r).respTrace = s.respTrace := rfl
@[simp] theorem State.addTx_issued (s : State) (r : TxRecord) :
    (s.addTx r).issued = s.issued := rfl
@[simp] theorem State.addTx_refusals (s : State) (r : TxRecord) :
    (s.addTx r).refusals = s.refusals := rfl
@[simp] theorem State.addTx_pending (s : State) (r : TxRecord) :
    (s.addTx r).pending = s.pending := rfl
@[simp] theorem State.addTx_env (s : State) (r : TxRecord) :
    (s.addTx r).env = s.env := rfl
@[simp] theorem State.addTx_inputs (s : State) (r : TxRecord) :
    (s.addTx r).inputs = s.inputs := rfl

/-! ### addLog -/

@[simp] theorem State.addLog_params (s : State) (es : List LogEvent) :
    (s.addLog es).params = s.params := rfl
@[simp] theorem State.addLog_sess (s : State) (es : List LogEvent) :
    (s.addLog es).sess = s.sess := rfl
@[simp] theorem State.addLog_handle (s : State) (es : List LogEvent) :
    (s.addLog es).handle = s.handle := rfl
@[simp] theorem State.addLog_baud (s : State) (es : List LogEvent) :
    (s.addLog es).baud = s.baud := rfl
@[simp] theorem State.addLog_decState (s : State) (es : List LogEvent) :
    (s.addLog es).decState = s.decState := rfl
@[simp] theorem State.addLog_seekIdx (s : State) (es : List LogEvent) :
    (s.addLog es).seekIdx = s.seekIdx := rfl
@[simp] theorem State.addLog_rxBuf (s : State) (es : List LogEvent) :
    (s.addLog es).rxBuf = s.rxBuf := rfl
@[simp] theorem State.addLog_txBuf (s : State) (es : List LogEvent) :
    (s.addLog es).txBuf = s.txBuf := rfl
@[simp] theorem State.addLog_refused (s : State) (es : List LogEvent) :
    (s.addLog es).refused = s.refused := rfl
@[simp] theorem State.addLog_txTrace (s : State) (es : List LogEvent) :
    (s.addLog es).txTrace = s.txTrace := rfl
@[simp] theorem State.addLog_logTrace (s : State) (es : List LogEvent) :
    (s.addLog es).logTrace = s.logTrace ++ es := rfl
@[simp] theorem State.addLog_respTrace (s : State) (es : List LogEvent) :
    (s.addLog es).respTrace = s.respTrace := rfl
@[simp] theorem State.addLog_issued (s : State) (es : List LogEvent) :
    (s.addLog es).issued = s.issued := rfl
@[simp] theorem State.addLog_refusals (s : State) (es : List LogEvent) :
    (s.addLog es).refusals = s.refusals := rfl
@[simp] theorem State.addLog_pending (s : State) (es : List LogEvent) :
    (s.addLog es).pending = s.pending := rfl
@[simp] theorem State.addLog_env (s : State) (es : List LogEvent) :
    (s.addLog es).env = s.env := rfl
@[simp] theorem State.addLog_inputs (s : State) (es : List LogEvent) :
    (s.addLog es).inputs = s.inputs := rfl

/-! ### respond -/

@[simp] theorem State.respond_params (s : State) (r : Response) :
    (s.respond r).params = s.params := rfl
@[simp] theorem State.respond_sess (s : State) (r : Response) :
    (s.respond r).sess = s.sess := rfl
@[simp] theorem State.respond_handle (s : State) (r : Response) :
    (s.respond r).handle = s.handle := rfl
@[simp] theorem State.respond_baud (s : State) (r : Response) :
    (s.respond r).baud = s.baud := rfl
@[simp] theorem State.respond_decState (s : State) (r : Response) :
    (s.respond r).decState = s.decState := rfl
@[simp] theorem State.respond_seekIdx (s : State) (r : Response) :
    (s.respond r).seekIdx = s.seekIdx := rfl
@[simp] theorem State.respond_rxBuf (s : State) (r : Response) :
    (s.respond r).rxBuf = s.rxBuf := rfl
@[simp] theorem State.respond_txBuf (s : State) (r : Response) :
    (s.respond r).txBuf = s.txBuf := rfl
@[simp] theorem State.respond_refused (s : State) (r : Response) :
    (s.respond r).refused = s.refused := rfl
@[simp] theorem State.respond_txTrace (s : State) (r : Response) :
    (s.respond r).txTrace = s.txTrace := rfl
@[simp] theorem State.respond_logTrace (s : State) (r : Response) :
    (s.respond r).logTrace = s.logTrace := rfl
@[simp] theorem State.respond_respTrace (s : State) (r : Response) :
    (s.respond r).respTrace = s.respTrace ++ [r] := rfl
@[simp] theorem State.respond_issued (s : State) (r : Response) :
    (s.respond r).issued = s.issued := rfl
@[simp] theorem State.respond_refusals (s : State) (r : Response) :
    (s.respond r).refusals = s.refusals := rfl
@[simp] theorem State.respond_pending (s : State) (r : Response) :
    (s.respond r).pending = s.pending := rfl
@[simp] theorem State.respond_env (s : State) (r : Response) :
    (s.respond r).env = s.env := rfl
@[simp] theorem State.respond_inputs (s : State) (r : Response) :
    (s.respond r).inputs = s.inputs := rfl

/-! ### issue -/

@[simp] theorem State.issue_params (s : State) (c : LinkCall) :
    (s.issue c).params = s.params := rfl
@[simp] theorem State.issue_sess (s : State) (c : LinkCall) :
    (s.issue c).sess = s.sess := rfl
@[simp] theorem State.issue_handle (s : State) (c : LinkCall) :
    (s.issue c).handle = s.handle := rfl
@[simp] theorem State.issue_baud (s : State) (c : LinkCall) :
    (s.issue c).baud = s.baud := rfl
@[simp] theorem State.issue_decState (s : State) (c : LinkCall) :
    (s.issue c).decState = s.decState := rfl
@[simp] theorem State.issue_seekIdx (s : State) (c : LinkCall) :
    (s.issue c).seekIdx = s.seekIdx := rfl
@[simp] theorem State.issue_rxBuf (s : State) (c : LinkCall) :
    (s.issue c).rxBuf = s.rxBuf := rfl
@[simp] theorem State.issue_txBuf (s : State) (c : LinkCall) :
    (s.issue c).txBuf = s.txBuf := rfl
@[simp] theorem State.issue_refused (s : State) (c : LinkCall) :
    (s.issue c).refused = s.refused := rfl
@[simp] theorem State.issue_txTrace (s : State) (c : LinkCall) :
    (s.issue c).txTrace = s.txTrace := rfl
@[simp] theorem State.issue_logTrace (s : State) (c : LinkCall) :
    (s.issue c).logTrace = s.logTrace := rfl
@[simp] theorem State.issue_respTrace (s : State) (c : LinkCall) :
    (s.issue c).respTrace = s.respTrace := rfl
@[simp] theorem State.issue_issued (s : State) (c : LinkCall) :
    (s.issue c).issued = s.issued ++ [c] := rfl
@[simp] theorem State.issue_refusals (s : State) (c : LinkCall) :
    (s.issue c).refusals = s.refusals := rfl
@[simp] theorem State.issue_pending (s : State) (c : LinkCall) :
    (s.issue c).pending = s.pending := rfl
@[simp] theorem State.issue_env (s : State) (c : LinkCall) :
    (s.issue c).env = s.env := rfl
@[simp] theorem State.issue_inputs (s : State) (c : LinkCall) :
    (s.issue c).inputs = s.inputs := rfl

/-! ### refuse -/

@[simp] theorem State.refuse_params (s : State) (r : RefusalReason) :
    (s.refuse r).params = s.params := rfl
@[simp] theorem State.refuse_sess (s : State) (r : RefusalReason) :
    (s.refuse r).sess = s.sess := rfl
@[simp] theorem State.refuse_handle (s : State) (r : RefusalReason) :
    (s.refuse r).handle = s.handle := rfl
@[simp] theorem State.refuse_baud (s : State) (r : RefusalReason) :
    (s.refuse r).baud = s.baud := rfl
@[simp] theorem State.refuse_decState (s : State) (r : RefusalReason) :
    (s.refuse r).decState = s.decState := rfl
@[simp] theorem State.refuse_seekIdx (s : State) (r : RefusalReason) :
    (s.refuse r).seekIdx = s.seekIdx := rfl
@[simp] theorem State.refuse_rxBuf (s : State) (r : RefusalReason) :
    (s.refuse r).rxBuf = s.rxBuf := rfl
@[simp] theorem State.refuse_txBuf (s : State) (r : RefusalReason) :
    (s.refuse r).txBuf = s.txBuf := rfl
@[simp] theorem State.refuse_refused (s : State) (r : RefusalReason) :
    (s.refuse r).refused = true := rfl
@[simp] theorem State.refuse_txTrace (s : State) (r : RefusalReason) :
    (s.refuse r).txTrace = s.txTrace := rfl
@[simp] theorem State.refuse_logTrace (s : State) (r : RefusalReason) :
    (s.refuse r).logTrace = s.logTrace := rfl
@[simp] theorem State.refuse_respTrace (s : State) (r : RefusalReason) :
    (s.refuse r).respTrace = s.respTrace := rfl
@[simp] theorem State.refuse_issued (s : State) (r : RefusalReason) :
    (s.refuse r).issued = s.issued := rfl
@[simp] theorem State.refuse_refusals (s : State) (r : RefusalReason) :
    (s.refuse r).refusals = s.refusals ++ [r] := rfl
@[simp] theorem State.refuse_pending (s : State) (r : RefusalReason) :
    (s.refuse r).pending = s.pending := rfl
@[simp] theorem State.refuse_env (s : State) (r : RefusalReason) :
    (s.refuse r).env = s.env := rfl
@[simp] theorem State.refuse_inputs (s : State) (r : RefusalReason) :
    (s.refuse r).inputs = s.inputs := rfl

/-! ### setPending -/

@[simp] theorem State.setPending_params (s : State) (o : Option Pending) :
    (s.setPending o).params = s.params := rfl
@[simp] theorem State.setPending_sess (s : State) (o : Option Pending) :
    (s.setPending o).sess = s.sess := rfl
@[simp] theorem State.setPending_handle (s : State) (o : Option Pending) :
    (s.setPending o).handle = s.handle := rfl
@[simp] theorem State.setPending_baud (s : State) (o : Option Pending) :
    (s.setPending o).baud = s.baud := rfl
@[simp] theorem State.setPending_decState (s : State) (o : Option Pending) :
    (s.setPending o).decState = s.decState := rfl
@[simp] theorem State.setPending_seekIdx (s : State) (o : Option Pending) :
    (s.setPending o).seekIdx = s.seekIdx := rfl
@[simp] theorem State.setPending_rxBuf (s : State) (o : Option Pending) :
    (s.setPending o).rxBuf = s.rxBuf := rfl
@[simp] theorem State.setPending_txBuf (s : State) (o : Option Pending) :
    (s.setPending o).txBuf = s.txBuf := rfl
@[simp] theorem State.setPending_refused (s : State) (o : Option Pending) :
    (s.setPending o).refused = s.refused := rfl
@[simp] theorem State.setPending_txTrace (s : State) (o : Option Pending) :
    (s.setPending o).txTrace = s.txTrace := rfl
@[simp] theorem State.setPending_logTrace (s : State) (o : Option Pending) :
    (s.setPending o).logTrace = s.logTrace := rfl
@[simp] theorem State.setPending_respTrace (s : State) (o : Option Pending) :
    (s.setPending o).respTrace = s.respTrace := rfl
@[simp] theorem State.setPending_issued (s : State) (o : Option Pending) :
    (s.setPending o).issued = s.issued := rfl
@[simp] theorem State.setPending_refusals (s : State) (o : Option Pending) :
    (s.setPending o).refusals = s.refusals := rfl
@[simp] theorem State.setPending_pending (s : State) (o : Option Pending) :
    (s.setPending o).pending = o := rfl
@[simp] theorem State.setPending_env (s : State) (o : Option Pending) :
    (s.setPending o).env = s.env := rfl
@[simp] theorem State.setPending_inputs (s : State) (o : Option Pending) :
    (s.setPending o).inputs = s.inputs := rfl

/-! ### setEnv -/

@[simp] theorem State.setEnv_params (s : State) (e : Env) :
    (s.setEnv e).params = s.params := rfl
@[simp] theorem State.setEnv_sess (s : State) (e : Env) :
    (s.setEnv e).sess = s.sess := rfl
@[simp] theorem State.setEnv_handle (s : State) (e : Env) :
    (s.setEnv e).handle = s.handle := rfl
@[simp] theorem State.setEnv_baud (s : State) (e : Env) :
    (s.setEnv e).baud = s.baud := rfl
@[simp] theorem State.setEnv_decState (s : State) (e : Env) :
    (s.setEnv e).decState = s.decState := rfl
@[simp] theorem State.setEnv_seekIdx (s : State) (e : Env) :
    (s.setEnv e).seekIdx = s.seekIdx := rfl
@[simp] theorem State.setEnv_rxBuf (s : State) (e : Env) :
    (s.setEnv e).rxBuf = s.rxBuf := rfl
@[simp] theorem State.setEnv_txBuf (s : State) (e : Env) :
    (s.setEnv e).txBuf = s.txBuf := rfl
@[simp] theorem State.setEnv_refused (s : State) (e : Env) :
    (s.setEnv e).refused = s.refused := rfl
@[simp] theorem State.setEnv_txTrace (s : State) (e : Env) :
    (s.setEnv e).txTrace = s.txTrace := rfl
@[simp] theorem State.setEnv_logTrace (s : State) (e : Env) :
    (s.setEnv e).logTrace = s.logTrace := rfl
@[simp] theorem State.setEnv_respTrace (s : State) (e : Env) :
    (s.setEnv e).respTrace = s.respTrace := rfl
@[simp] theorem State.setEnv_issued (s : State) (e : Env) :
    (s.setEnv e).issued = s.issued := rfl
@[simp] theorem State.setEnv_refusals (s : State) (e : Env) :
    (s.setEnv e).refusals = s.refusals := rfl
@[simp] theorem State.setEnv_pending (s : State) (e : Env) :
    (s.setEnv e).pending = s.pending := rfl
@[simp] theorem State.setEnv_env (s : State) (e : Env) :
    (s.setEnv e).env = e := rfl
@[simp] theorem State.setEnv_inputs (s : State) (e : Env) :
    (s.setEnv e).inputs = s.inputs := rfl

/-! ### setInputs -/

@[simp] theorem State.setInputs_params (s : State) (l : List Input) :
    (s.setInputs l).params = s.params := rfl
@[simp] theorem State.setInputs_sess (s : State) (l : List Input) :
    (s.setInputs l).sess = s.sess := rfl
@[simp] theorem State.setInputs_handle (s : State) (l : List Input) :
    (s.setInputs l).handle = s.handle := rfl
@[simp] theorem State.setInputs_baud (s : State) (l : List Input) :
    (s.setInputs l).baud = s.baud := rfl
@[simp] theorem State.setInputs_decState (s : State) (l : List Input) :
    (s.setInputs l).decState = s.decState := rfl
@[simp] theorem State.setInputs_seekIdx (s : State) (l : List Input) :
    (s.setInputs l).seekIdx = s.seekIdx := rfl
@[simp] theorem State.setInputs_rxBuf (s : State) (l : List Input) :
    (s.setInputs l).rxBuf = s.rxBuf := rfl
@[simp] theorem State.setInputs_txBuf (s : State) (l : List Input) :
    (s.setInputs l).txBuf = s.txBuf := rfl
@[simp] theorem State.setInputs_refused (s : State) (l : List Input) :
    (s.setInputs l).refused = s.refused := rfl
@[simp] theorem State.setInputs_txTrace (s : State) (l : List Input) :
    (s.setInputs l).txTrace = s.txTrace := rfl
@[simp] theorem State.setInputs_logTrace (s : State) (l : List Input) :
    (s.setInputs l).logTrace = s.logTrace := rfl
@[simp] theorem State.setInputs_respTrace (s : State) (l : List Input) :
    (s.setInputs l).respTrace = s.respTrace := rfl
@[simp] theorem State.setInputs_issued (s : State) (l : List Input) :
    (s.setInputs l).issued = s.issued := rfl
@[simp] theorem State.setInputs_refusals (s : State) (l : List Input) :
    (s.setInputs l).refusals = s.refusals := rfl
@[simp] theorem State.setInputs_pending (s : State) (l : List Input) :
    (s.setInputs l).pending = s.pending := rfl
@[simp] theorem State.setInputs_env (s : State) (l : List Input) :
    (s.setInputs l).env = s.env := rfl
@[simp] theorem State.setInputs_inputs (s : State) (l : List Input) :
    (s.setInputs l).inputs = l := rfl

/-! ### blockReset -/

@[simp] theorem State.blockReset_params (s : State) :
    (s.blockReset).params = s.params := rfl
@[simp] theorem State.blockReset_sess (s : State) :
    (s.blockReset).sess = .closed := rfl
@[simp] theorem State.blockReset_handle (s : State) :
    (s.blockReset).handle = none := rfl
@[simp] theorem State.blockReset_baud (s : State) :
    (s.blockReset).baud = none := rfl
@[simp] theorem State.blockReset_decState (s : State) :
    (s.blockReset).decState = .idle := rfl
@[simp] theorem State.blockReset_seekIdx (s : State) :
    (s.blockReset).seekIdx = 0#1 := rfl
@[simp] theorem State.blockReset_rxBuf (s : State) :
    (s.blockReset).rxBuf = rxUnwritten := rfl
@[simp] theorem State.blockReset_txBuf (s : State) :
    (s.blockReset).txBuf = txUnwritten := rfl
@[simp] theorem State.blockReset_refused (s : State) :
    (s.blockReset).refused = s.refused := rfl
@[simp] theorem State.blockReset_txTrace (s : State) :
    (s.blockReset).txTrace = s.txTrace := rfl
@[simp] theorem State.blockReset_logTrace (s : State) :
    (s.blockReset).logTrace = s.logTrace := rfl
@[simp] theorem State.blockReset_respTrace (s : State) :
    (s.blockReset).respTrace = s.respTrace := rfl
@[simp] theorem State.blockReset_issued (s : State) :
    (s.blockReset).issued = s.issued := rfl
@[simp] theorem State.blockReset_refusals (s : State) :
    (s.blockReset).refusals = s.refusals := rfl
@[simp] theorem State.blockReset_pending (s : State) :
    (s.blockReset).pending = none := rfl
@[simp] theorem State.blockReset_env (s : State) :
    (s.blockReset).env = s.env := rfl
@[simp] theorem State.blockReset_inputs (s : State) :
    (s.blockReset).inputs = s.inputs := rfl

/-! ### Derived updates are these updates -/

@[simp] theorem State.dropInput_eq (s : State) : s.dropInput = s.setInputs s.inputs.tail := rfl

@[simp] theorem State.terminal_eq (s : State) : s.terminal = s.setDec .idle 0#1 := rfl

@[simp] theorem State.deliver_eq (s : State) (bs : List Byte) :
    s.deliver bs = s.setEnv { s.env with rx := s.env.rx ++ bs.map RxItem.byte } := rfl

@[simp] theorem State.openFailed_eq (s : State) : s.openFailed =
    ((s.setSession .powerless none none).addLog [.cannotOpen]).respond (.openLink .openFailure) := rfl

end Sys2Proof.Machine
end

