-- ==== Sys2Proof/Laws/Link.lean ====
section
/-! SUPPORT. Laws/Link.lean: what the link primitives can do: one lemma per primitive on a listed stream, and what they
leave alone. -/

namespace Sys2Proof.Machine

@[simp] theorem bodySize_eq : bodySize = 4 := rfl

theorem takeRx_listed {e : Env} {x : RxItem} {xs : List RxItem} (h : e.rx = x :: xs) :
    e.takeRx = (x, { e with rx := xs }) := by simp [Env.takeRx, h]

theorem takeRx_quiet {e : Env} (h : e.rx = []) (q : e.quiet = true) : e.takeRx = (.gap, e) := by
  simp [Env.takeRx, h, q]

theorem takeOpen_listed {e : Env} {x : OpenAnswer} {xs : List OpenAnswer} (h : e.opens = x :: xs) :
    e.takeOpen = (x, { e with opens := xs }) := by simp [Env.takeOpen, h]

theorem takeClose_listed {e : Env} {x : CloseAnswer} {xs : List CloseAnswer} (h : e.closes = x :: xs) :
    e.takeClose = (x, { e with closes := xs }) := by simp [Env.takeClose, h]

theorem takeWrite_listed {e : Env} {x : WriteAnswer} {xs : List WriteAnswer} (h : e.writes = x :: xs) :
    e.takeWrite = (x, { e with writes := xs }) := by simp [Env.takeWrite, h]

/-- A delivery on RX touches no other answer of E. -/
theorem takeRx_frame (e : Env) : e.takeRx.2 = { e with rx := e.takeRx.2.rx, draws := e.takeRx.2.draws } := by
  unfold Env.takeRx
  split
  · rfl
  · split <;> rfl

theorem takeBlock_frame (n : Nat) (e : Env) :
    (Env.takeBlock n e).2 = { e with rx := (Env.takeBlock n e).2.rx, draws := (Env.takeBlock n e).2.draws } := by
  induction n generalizing e with
  | zero => rfl
  | succ n ih =>
    have hf := takeRx_frame e
    rcases h : e.takeRx with ⟨x, e1⟩
    rw [h] at hf
    cases x with
    | gap => simpa [Env.takeBlock, h] using hf
    | byte b =>
      simp only [Env.takeBlock, h]
      rw [ih e1]
      simp only at hf
      rw [hf]

theorem takeBlock_length_le (n : Nat) (e : Env) : (Env.takeBlock n e).1.length ≤ n := by
  induction n generalizing e with
  | zero => simp [Env.takeBlock]
  | succ n ih =>
    rcases h : e.takeRx with ⟨x, e1⟩
    cases x with
    | gap => simp [Env.takeBlock, h]
    | byte b => simpa [Env.takeBlock, h] using ih e1

/-- A block read of bytes that are all listed gives them and consumes them. -/
theorem takeBlock_listed (bs : List Byte) {e : Env} {rest : List RxItem} (h : e.rx = bs.map RxItem.byte ++ rest) :
    Env.takeBlock bs.length e = (bs, { e with rx := rest }) := by
  induction bs generalizing e with
  | nil => cases e; simp_all [Env.takeBlock]
  | cons b bs ih =>
    have h1 := takeRx_listed (by simpa using h : e.rx = .byte b :: (bs.map RxItem.byte ++ rest))
    simp [Env.takeBlock, h1, ih (e := { e with rx := bs.map RxItem.byte ++ rest }) rfl]

/-- A block read that meets a silence gives the bytes before it, and the silence is used up. -/
theorem takeBlock_gap (bs : List Byte) {n : Nat} {e : Env} {rest : List RxItem} (hn : bs.length < n)
    (h : e.rx = bs.map RxItem.byte ++ .gap :: rest) : Env.takeBlock n e = (bs, { e with rx := rest }) := by
  induction bs generalizing e n with
  | nil =>
    match n, hn with
    | n + 1, _ => simp [Env.takeBlock, takeRx_listed (by simpa using h : e.rx = .gap :: rest)]
  | cons b bs ih =>
    match n, hn with
    | n + 1, hn =>
      have h1 := takeRx_listed (by simpa using h : e.rx = .byte b :: (bs.map RxItem.byte ++ .gap :: rest))
      simp [Env.takeBlock, h1,
        ih (n := n) (e := { e with rx := bs.map RxItem.byte ++ .gap :: rest }) (by simpa using hn) rfl]

/-- `RxByte` changes E and records the read, and nothing else. -/
theorem rxByte_frame (s : State) : s.rxByte.2 = { s with env := s.rxByte.2.env, issued := s.rxByte.2.issued } := rfl

/-- `RxBlock` changes E and records the read, and nothing else. -/
theorem rxBlock_frame (s : State) : s.rxBlock.2 = { s with env := s.rxBlock.2.env, issued := s.rxBlock.2.issued } := rfl

end Sys2Proof.Machine
end

