-- ==== Sys2Proof/Safety.lean ====
section
/-! DEFINITION. Safety.lean: the terms the claims use: the invariant of a run, what a list of issued primitives reads,
writes and waits for, and the TX stream. -/

namespace Sys2Proof.Machine

/-- `handle` is held iff `baud` is held iff `sess = OPEN` (10_state.md R23), and a rate held is positive
(10_state.md R21). -/
abbrev State.sessionOk (s : State) : Prop :=
  (s.handle.isSome = true ↔ s.sess = .opened) ∧ (s.baud.isSome = true ↔ s.sess = .opened) ∧ s.baud ≠ some 0#32

/-- Between operations `dec_state = IDLE` and `seek_idx = 0` (10_state.md R24). -/
abbrev State.decoderAtRest (s : State) : Prop := s.decState = .idle ∧ s.seekIdx = 0#1

/-- An operation in progress is one the session mode allows: LinkOpen only while no link is held and with a positive
rate (44_link_session.md R194), LinkClose and TxWrite only in OPEN (R195, R196). -/
def pendingOk (m : Sess) : Option Pending → Bool
  | none => true
  | some (.linkOpen _ rate) => decide (m ≠ .opened) && decide (rate ≠ 0#32)
  | some .linkClose => decide (m = .opened)
  | some (.txWrite _) => decide (m = .opened)

/-- The refusal mark and the reasons agree: it is set iff some request was refused (10_state.md R28,
60_exceptions.md R233). -/
abbrev State.markOk (s : State) : Prop := s.refused = true ↔ s.refusals ≠ []

/-- The invariant of a run: what every step keeps and `State.reset` has. -/
abbrev State.Inv (s : State) : Prop :=
  s.sessionOk ∧ s.decoderAtRest ∧ pendingOk s.sess s.pending = true ∧ s.markOk

/-- A primitive that reads RX. -/
def LinkCall.isRead : LinkCall → Bool
  | .linkOpen _ _ _ => false
  | .linkClose _ => false
  | .rxByte _ _ => true
  | .rxBlock _ _ _ => true
  | .txWrite _ => false

/-- A primitive that writes TX. -/
def LinkCall.isWrite : LinkCall → Bool
  | .linkOpen _ _ _ => false
  | .linkClose _ => false
  | .rxByte _ _ => false
  | .rxBlock _ _ _ => false
  | .txWrite _ => true

/-- The longest wait a read's budget allows, in milliseconds (44_link_session.md R193). -/
def LinkCall.waitMs : LinkCall → Nat
  | .linkOpen _ _ _ => 0
  | .linkClose _ => 0
  | .rxByte t _ => t
  | .rxBlock _ t _ => t.getD 0
  | .txWrite _ => 0

/-- The longest wait on the link of a list of primitives (44_link_session.md R193, R199: each read has its own budget). -/
def waitBound (cs : List LinkCall) : Nat := (cs.map LinkCall.waitMs).sum

/-- The bytes an answer to a block read delivers. -/
def BlockAnswer.list : BlockAnswer → List Byte
  | .bytes bs => bs
  | .short bs => bs

/-- The RX bytes a primitive consumes (20_memory.md R51). -/
def LinkCall.consumed : LinkCall → List Byte
  | .linkOpen _ _ _ => []
  | .linkClose _ => []
  | .rxByte _ (.byte b) => [b]
  | .rxByte _ .timeout => []
  | .rxBlock _ _ a => a.list
  | .txWrite _ => []

/-- The RX bytes a list of primitives consumes, in order (10_state.md R32, 43_resync_decoder.md R158). -/
def consumedBytes (cs : List LinkCall) : List Byte := cs.flatMap LinkCall.consumed

/-- The TX stream: of each write the accepted prefix, in order (20_memory.md R53). -/
def txStream (tr : List TxRecord) : List Byte := tr.flatMap fun r => (bytes7List r.bytes).take r.accepted

/-- The six bytes of a status frame as items of the RX stream. -/
def frameItems (f : Bytes6 Byte) : List RxItem := (bytes6List f).map RxItem.byte

/-- Instructions run one after another, while each gives a next state. -/
def execAll : List Instr → State → Result
  | [], s => .next s
  | i :: is, s =>
    match exec i s with
    | .next t => execAll is t
    | .fault r => .fault r
    | .refused r => .refused r

/-- Nothing arrives before the operation in progress looks for its answer: no input, or the host's next request, which
waits (10_state.md R20). -/
def onlyHostWaits : List Input → Bool
  | [] => true
  | .encoded (.request _ _ _) :: _ => true
  | .encoded (.wire _ _) :: _ => false
  | .intruder _ :: _ => false
  | .reset :: _ => false

/-- The response of SEND_COMMAND and POLL_STATUS while no link is held (44_link_session.md R198); none for the rest. -/
def silentResponse : Instr → Option Response
  | .openLink _ _ => none
  | .closeLink => none
  | .sendCommand _ _ _ => some (.sendCommand .notOpen)
  | .pollStatus => some (.pollStatus .notOpen none)
  | .commandFrame _ _ _ _ => none
  | .statusFrame _ _ _ _ => none

/-- The four host operations (30_encoding.md R79), and not the frames. -/
def Instr.isHostOperation : Instr → Bool
  | .openLink _ _ => true
  | .closeLink => true
  | .sendCommand _ _ _ => true
  | .pollStatus => true
  | .commandFrame _ _ _ _ => false
  | .statusFrame _ _ _ _ => false

/-- The first two bytes of the magic on the wire as items of the RX stream (30_encoding.md R71). -/
def magicItems (p : Params) : List RxItem := [.byte (magicWire p 0#1), .byte (magicWire p 1#1)]

end Sys2Proof.Machine
end

