-- ==== Sys2Proof/Laws/Decoder.lean ====
section
/-! SUPPORT. Laws/Decoder.lean: what each step of the decode cycle can do, and what a whole cycle leaves alone. -/

namespace Sys2Proof.Machine

/-- `t` differs from `s` at most in what the decode cycle may write (43_resync_decoder.md; 44_link_session.md R197). -/
def CycleFrame (s t : State) : Prop :=
  t = { s with decState := t.decState, seekIdx := t.seekIdx, rxBuf := t.rxBuf, issued := t.issued, env := t.env }

theorem CycleFrame.trans {s t u : State} (h1 : CycleFrame s t) (h2 : CycleFrame t u) : CycleFrame s u := by
  unfold CycleFrame at *
  rw [h2, h1]

/-- The state that a step of the cycle ends in. -/
def CycleStep.state : CycleStep → State
  | .go s => s
  | .stop _ s => s

/-- Whether a terminal outcome left the decoder at rest (43_resync_decoder.md R157). -/
def CycleStep.Rests : CycleStep → Prop
  | .go _ => True
  | .stop _ s => s.decoderAtRest

@[simp] theorem thenDo_go (s : State) (k : State → FrameOutcome StatusFrame × State) :
    (CycleStep.go s).thenDo k = k s := rfl

@[simp] theorem thenDo_stop (o : FrameOutcome StatusFrame) (s : State)
    (k : State → FrameOutcome StatusFrame × State) : (CycleStep.stop o s).thenDo k = (o, s) := rfl

/-- The state after an `RxByte` that E answered with `a`, leaving `e`. -/
def State.afterByte (s : State) (e : Env) (a : ByteAnswer) : State :=
  (s.setEnv e).issue (.rxByte s.params.tByteMs a)

/-- The state after the body read that E answered with `a`, leaving `e`. -/
def State.afterBlock (s : State) (e : Env) (a : BlockAnswer) : State :=
  (s.setEnv e).issue (.rxBlock 4 s.bodyBudget a)

/-- SEEK on a silence. -/
theorem seekStep_gap {s : State} {e : Env} (h : s.env.takeRx = (.gap, e)) :
    seekStep s = .stop (.failed .timeout) (s.afterByte e .timeout).terminal := by
  simp [seekStep, State.rxByte, h, byteAnswer, State.afterByte]

/-- SEEK on a byte that mismatches. -/
theorem seekStep_mismatch {s : State} {e : Env} {b : Byte} (h : s.env.takeRx = (.byte b, e))
    (hb : b ≠ magicWire s.params s.seekIdx) : seekStep s =
      .stop (.failed .magicMismatch) ((s.afterByte e (.byte b)).writeSeek s.seekIdx b).terminal := by
  simp [seekStep, State.rxByte, h, byteAnswer, State.afterByte, seekByte, hb]

/-- SEEK of the first magic byte. -/
theorem seekStep_first {s : State} {e : Env} {b : Byte} (h : s.env.takeRx = (.byte b, e)) (hi : s.seekIdx = 0#1)
    (hb : b = magicWire s.params 0#1) : seekStep s =
      .go (((s.afterByte e (.byte b)).writeSeek 0#1 b).setDec .seek 1#1) := by
  simp [seekStep, State.rxByte, h, byteAnswer, State.afterByte, seekByte, hi, hb]

/-- SEEK of the second magic byte. -/
theorem seekStep_second {s : State} {e : Env} {b : Byte} (h : s.env.takeRx = (.byte b, e)) (hi : s.seekIdx = 1#1)
    (hb : b = magicWire s.params 1#1) : seekStep s =
      .go (((s.afterByte e (.byte b)).writeSeek 1#1 b).setDec .readBody 0#1) := by
  simp [seekStep, State.rxByte, h, byteAnswer, State.afterByte, seekByte, hi, hb]

/-- READ_BODY on four bytes. -/
theorem readBodyStep_full {s : State} {e : Env} {c0 c1 c2 c3 : Byte}
    (h : Env.takeBlock 4 s.env = ([c0, c1, c2, c3], e)) : readBodyStep s =
      .go (((s.afterBlock e (.bytes [c0, c1, c2, c3])).writeBody c0 c1 c2 c3).setDec .validate s.seekIdx) := by
  simp [readBodyStep, State.rxBlock, h, blockAnswer, State.afterBlock]

/-- READ_BODY on fewer than four bytes. -/
theorem readBodyStep_short {s : State} {e : Env} {bs : List Byte} (h : Env.takeBlock 4 s.env = (bs, e))
    (hl : bs.length < 4) : readBodyStep s =
      .stop (.failed .incompleteFrame) (s.afterBlock e (.short bs)).terminal := by
  have hne : bs.length ≠ 4 := by omega
  simp [readBodyStep, State.rxBlock, h, blockAnswer, State.afterBlock, hne]

/-- VALIDATE after the body has been written reads what was written. -/
theorem validateStep_written (s : State) (c0 c1 c2 c3 : Byte) (d : DecState) (i : BitVec 1) :
    (validateStep ((s.writeBody c0 c1 c2 c3).setDec d i)).1 = statusVerdict s.params c0 c1 c2 c3 := rfl

theorem seekStep_frame (s : State) : CycleFrame s (seekStep s).state := by
  unfold seekStep seekByte
  split
  · rename_i s1 h
    obtain rfl : s.rxByte.2 = s1 := by rw [h]
    rfl
  · rename_i b s1 h
    obtain rfl : s.rxByte.2 = s1 := by rw [h]
    split
    · rfl
    · split <;> rfl

theorem seekStep_rests (s : State) : (seekStep s).Rests := by
  unfold seekStep seekByte
  split
  · exact ⟨rfl, rfl⟩
  · split
    · exact ⟨rfl, rfl⟩
    · split <;> trivial

theorem readBodyStep_frame (s : State) : CycleFrame s (readBodyStep s).state := by
  unfold readBodyStep
  split
  · rename_i s1 h
    obtain rfl : s.rxBlock.2 = s1 := by rw [h]
    rfl
  · rename_i s1 _ h
    obtain rfl : s.rxBlock.2 = s1 := by rw [h]
    rfl

theorem readBodyStep_rests (s : State) : (readBodyStep s).Rests := by
  unfold readBodyStep
  split
  · trivial
  · exact ⟨rfl, rfl⟩

theorem validateStep_frame (s : State) : CycleFrame s (validateStep s).2 := rfl

theorem thenDo_frame {s : State} {c : CycleStep} {k : State → FrameOutcome StatusFrame × State}
    (hc : CycleFrame s c.state) (hk : ∀ t, CycleFrame t (k t).2) : CycleFrame s (c.thenDo k).2 := by
  cases c with
  | go t => exact hc.trans (hk t)
  | stop o t => exact hc

theorem thenDo_rests {c : CycleStep} {k : State → FrameOutcome StatusFrame × State} (hc : c.Rests)
    (hk : ∀ t, (k t).2.decoderAtRest) : (c.thenDo k).2.decoderAtRest := by
  cases c with
  | go t => exact hk t
  | stop o t => exact hc

theorem afterMagic_frame (s : State) : CycleFrame s (afterMagic s).2 :=
  thenDo_frame (readBodyStep_frame s) validateStep_frame

theorem afterMagic_rests (s : State) : (afterMagic s).2.decoderAtRest :=
  thenDo_rests (readBodyStep_rests s) fun _ => ⟨rfl, rfl⟩

/-- A decode cycle writes only the decoder's own state, E and the record of reads. -/
theorem decodeCycle_frame (s : State) : CycleFrame s (decodeCycle s).2 :=
  (show CycleFrame s s.enterCycle from rfl).trans <|
    thenDo_frame (seekStep_frame _) fun t => thenDo_frame (seekStep_frame t) afterMagic_frame

/-- A decode cycle ends with the decoder at rest (43_resync_decoder.md R157). -/
theorem decodeCycle_rests (s : State) : (decodeCycle s).2.decoderAtRest :=
  thenDo_rests (seekStep_rests _) fun t => thenDo_rests (seekStep_rests t) afterMagic_rests

/-! ### The paths of a cycle (43_resync_decoder.md R158): the outcome, E after it, and the primitives issued -/

/-- What a cycle from `s` does along one path. -/
def CyclePath (s : State) (o : FrameOutcome StatusFrame) (e : Env) (cs : List LinkCall) : Prop :=
  (decodeCycle s).1 = o ∧ (decodeCycle s).2.env = e ∧ (decodeCycle s).2.issued = s.issued ++ cs

theorem cyclePath_silent {s : State} {e : Env} (h : s.env.takeRx = (.gap, e)) :
    CyclePath s (.failed .timeout) e [.rxByte s.params.tByteMs .timeout] := by
  have h1 : seekStep s.enterCycle = _ := seekStep_gap h
  unfold CyclePath decodeCycle
  rw [h1]
  exact ⟨rfl, rfl, rfl⟩

theorem cyclePath_mismatch {s : State} {e : Env} {b : Byte} (h : s.env.takeRx = (.byte b, e))
    (hb : b ≠ magicWire s.params 0#1) :
    CyclePath s (.failed .magicMismatch) e [.rxByte s.params.tByteMs (.byte b)] := by
  have h1 : seekStep s.enterCycle = _ := seekStep_mismatch h hb
  unfold CyclePath decodeCycle
  rw [h1]
  exact ⟨rfl, rfl, rfl⟩

/-- After the first magic byte, the second seek decides. -/
theorem decodeCycle_first {s : State} {e : Env} (h : s.env.takeRx = (.byte (magicWire s.params 0#1), e)) :
    ∃ t : State, decodeCycle s = (seekStep t).thenDo afterMagic ∧ t.env = e ∧ t.params = s.params ∧
      t.seekIdx = 1#1 ∧ t.baud = s.baud ∧
      t.issued = s.issued ++ [.rxByte s.params.tByteMs (.byte (magicWire s.params 0#1))] := by
  have h1 : seekStep s.enterCycle = _ := seekStep_first h rfl rfl
  refine ⟨((s.enterCycle.afterByte e (.byte (magicWire s.params 0#1))).writeSeek 0#1 (magicWire s.params 0#1)).setDec
    .seek 1#1, ?_, rfl, rfl, rfl, rfl, rfl⟩
  unfold decodeCycle
  rw [h1, thenDo_go]

theorem cyclePath_first_silent {s : State} {e e1 : Env} (h : s.env.takeRx = (.byte (magicWire s.params 0#1), e))
    (h1 : e.takeRx = (.gap, e1)) : CyclePath s (.failed .timeout) e1
      [.rxByte s.params.tByteMs (.byte (magicWire s.params 0#1)), .rxByte s.params.tByteMs .timeout] := by
  obtain ⟨t, ht, he, hp, _, _, hi⟩ := decodeCycle_first h
  rw [← he] at h1
  unfold CyclePath
  rw [ht, seekStep_gap h1]
  exact ⟨rfl, rfl, by simp [State.afterByte, hi, hp]⟩

theorem cyclePath_first_mismatch {s : State} {e e1 : Env} {b : Byte}
    (h : s.env.takeRx = (.byte (magicWire s.params 0#1), e)) (h1 : e.takeRx = (.byte b, e1))
    (hb : b ≠ magicWire s.params 1#1) : CyclePath s (.failed .magicMismatch) e1
      [.rxByte s.params.tByteMs (.byte (magicWire s.params 0#1)), .rxByte s.params.tByteMs (.byte b)] := by
  obtain ⟨t, ht, he, hp, hx, _, hi⟩ := decodeCycle_first h
  rw [← he] at h1
  unfold CyclePath
  rw [ht, seekStep_mismatch h1 (by rw [hx, hp]; exact hb)]
  exact ⟨rfl, rfl, by simp [State.afterByte, State.writeSeek, hi, hp]⟩

/-- After both magic bytes, the body read decides. -/
theorem decodeCycle_magic {s : State} {e e1 : Env} (h : s.env.takeRx = (.byte (magicWire s.params 0#1), e))
    (h1 : e.takeRx = (.byte (magicWire s.params 1#1), e1)) :
    ∃ t : State, decodeCycle s = afterMagic t ∧ t.env = e1 ∧ t.params = s.params ∧ t.baud = s.baud ∧
      t.issued = s.issued ++ [.rxByte s.params.tByteMs (.byte (magicWire s.params 0#1)),
        .rxByte s.params.tByteMs (.byte (magicWire s.params 1#1))] := by
  obtain ⟨t, ht, he, hp, hx, hb, hi⟩ := decodeCycle_first h
  rw [← he] at h1
  rw [seekStep_second h1 hx (by rw [hp])] at ht
  refine ⟨_, ht, rfl, hp, hb, ?_⟩
  simp [State.afterByte, State.writeSeek, hi, hp]

theorem cyclePath_short {s : State} {e e1 e2 : Env} {bs : List Byte}
    (h : s.env.takeRx = (.byte (magicWire s.params 0#1), e)) (h1 : e.takeRx = (.byte (magicWire s.params 1#1), e1))
    (h2 : Env.takeBlock 4 e1 = (bs, e2)) (hl : bs.length < 4) : CyclePath s (.failed .incompleteFrame) e2
      [.rxByte s.params.tByteMs (.byte (magicWire s.params 0#1)),
        .rxByte s.params.tByteMs (.byte (magicWire s.params 1#1)), .rxBlock 4 s.bodyBudget (.short bs)] := by
  obtain ⟨t, ht, he, hp, hb, hi⟩ := decodeCycle_magic h h1
  rw [← he] at h2
  unfold CyclePath
  rw [ht, afterMagic, readBodyStep_short h2 hl]
  exact ⟨rfl, rfl, by simp [State.afterBlock, State.bodyBudget, hi, hb]⟩

theorem cyclePath_full {s : State} {e e1 e2 : Env} {c0 c1 c2 c3 : Byte}
    (h : s.env.takeRx = (.byte (magicWire s.params 0#1), e)) (h1 : e.takeRx = (.byte (magicWire s.params 1#1), e1))
    (h2 : Env.takeBlock 4 e1 = ([c0, c1, c2, c3], e2)) : CyclePath s (statusVerdict s.params c0 c1 c2 c3) e2
      [.rxByte s.params.tByteMs (.byte (magicWire s.params 0#1)),
        .rxByte s.params.tByteMs (.byte (magicWire s.params 1#1)),
        .rxBlock 4 s.bodyBudget (.bytes [c0, c1, c2, c3])] := by
  obtain ⟨t, ht, he, hp, hb, hi⟩ := decodeCycle_magic h h1
  rw [← he] at h2
  unfold CyclePath
  rw [ht, afterMagic, readBodyStep_full h2, thenDo_go, validateStep_written]
  refine ⟨?_, rfl, ?_⟩
  · rw [← hp]
    rfl
  · simp [validateStep, State.writeBody, State.afterBlock, State.bodyBudget, hi, hb]

/-- Everything a cycle can do: it ends along one of the paths of 43_resync_decoder.md R158. -/
theorem decodeCycle_paths (s : State) :
    (∃ e, s.env.takeRx = (.gap, e) ∧ CyclePath s (.failed .timeout) e [.rxByte s.params.tByteMs .timeout]) ∨
    (∃ e b, s.env.takeRx = (.byte b, e) ∧ b ≠ magicWire s.params 0#1 ∧
      CyclePath s (.failed .magicMismatch) e [.rxByte s.params.tByteMs (.byte b)]) ∨
    ∃ e, s.env.takeRx = (.byte (magicWire s.params 0#1), e) ∧
      ((∃ e1, e.takeRx = (.gap, e1) ∧ CyclePath s (.failed .timeout) e1
        [.rxByte s.params.tByteMs (.byte (magicWire s.params 0#1)), .rxByte s.params.tByteMs .timeout]) ∨
      (∃ e1 b, e.takeRx = (.byte b, e1) ∧ b ≠ magicWire s.params 1#1 ∧ CyclePath s (.failed .magicMismatch) e1
        [.rxByte s.params.tByteMs (.byte (magicWire s.params 0#1)), .rxByte s.params.tByteMs (.byte b)]) ∨
      ∃ e1, e.takeRx = (.byte (magicWire s.params 1#1), e1) ∧
        ((∃ e2 bs, Env.takeBlock 4 e1 = (bs, e2) ∧ bs.length < 4 ∧ CyclePath s (.failed .incompleteFrame) e2
          [.rxByte s.params.tByteMs (.byte (magicWire s.params 0#1)),
            .rxByte s.params.tByteMs (.byte (magicWire s.params 1#1)), .rxBlock 4 s.bodyBudget (.short bs)]) ∨
        ∃ e2 c0 c1 c2 c3, Env.takeBlock 4 e1 = ([c0, c1, c2, c3], e2) ∧
          CyclePath s (statusVerdict s.params c0 c1 c2 c3) e2
            [.rxByte s.params.tByteMs (.byte (magicWire s.params 0#1)),
              .rxByte s.params.tByteMs (.byte (magicWire s.params 1#1)),
              .rxBlock 4 s.bodyBudget (.bytes [c0, c1, c2, c3])])) := by
  rcases h : s.env.takeRx with ⟨x, e⟩
  cases x with
  | gap => exact .inl ⟨e, rfl, cyclePath_silent h⟩
  | byte b =>
    by_cases hb : b = magicWire s.params 0#1
    · subst hb
      refine .inr (.inr ⟨e, rfl, ?_⟩)
      rcases h1 : e.takeRx with ⟨x1, e1⟩
      cases x1 with
      | gap => exact .inl ⟨e1, rfl, cyclePath_first_silent h h1⟩
      | byte b1 =>
        by_cases hb1 : b1 = magicWire s.params 1#1
        · subst hb1
          refine .inr (.inr ⟨e1, rfl, ?_⟩)
          rcases h2 : Env.takeBlock 4 e1 with ⟨bs, e2⟩
          have hle : bs.length ≤ 4 := by simpa [h2] using takeBlock_length_le 4 e1
          by_cases hl : bs.length < 4
          · exact .inl ⟨e2, bs, rfl, hl, cyclePath_short h h1 h2 hl⟩
          · obtain ⟨c0, c1, c2, c3, rfl⟩ : ∃ c0 c1 c2 c3, bs = [c0, c1, c2, c3] :=
              List.length_eq_four.1 (by omega)
            exact .inr ⟨e2, c0, c1, c2, c3, rfl, cyclePath_full h h1 h2⟩
        · exact .inr (.inl ⟨e1, b1, rfl, hb1, cyclePath_first_mismatch h h1 hb1⟩)
    · exact .inr (.inl ⟨e, b, rfl, hb, cyclePath_mismatch h hb⟩)

/-- A verdict is a frame or a checksum mismatch (43_resync_decoder.md R151). -/
theorem statusVerdict_cases (p : Params) (c0 c1 c2 c3 : Byte) :
    (fromLe16 c2 c3 = checksum p.crc [c1] ∧
      statusVerdict p c0 c1 c2 c3 = .decoded ⟨headerSrc p c0, headerDst p c0, c1, fromLe16 c2 c3⟩) ∨
    (fromLe16 c2 c3 ≠ checksum p.crc [c1] ∧
      statusVerdict p c0 c1 c2 c3 = .failed (.checksumMismatch (fromLe16 c2 c3) (checksum p.crc [c1]))) := by
  by_cases h : fromLe16 c2 c3 = checksum p.crc [c1]
  · exact .inl ⟨h, by simp [statusVerdict, validate, h]⟩
  · exact .inr ⟨h, by simp [statusVerdict, validate, h]⟩

end Sys2Proof.Machine
end

