-- ==== Sys2Proof/Laws/Session.lean ====
section
/-! SUPPORT. Laws/Session.lean: what waiting for E's answer can end in, and that no operation of the machine stops. -/

namespace Sys2Proof.Machine

/-- Waiting for `LinkOpen` ends in a link held, a failed OPEN, or more waiting. -/
theorem awaitLinkOpen_cases (path : Path) (rate : Word32) (s : State) :
    (∃ h e, s.env.takeOpen = (.ok h, e) ∧ awaitLinkOpen path rate s =
      (((s.setEnv e).setPending none).setSession .opened (some h) (some rate)).respond (.openLink .ok)) ∨
    (∃ e, s.env.takeOpen = (.fail, e) ∧ awaitLinkOpen path rate s = ((s.setEnv e).setPending none).openFailed) ∨
    (∃ e, s.env.takeOpen = (.notYet, e) ∧
      awaitLinkOpen path rate s = (s.setEnv e).setPending (some (.linkOpen path rate))) := by
  rcases h : s.env.takeOpen with ⟨a, e⟩
  cases a with
  | ok k => exact .inl ⟨k, e, rfl, by simp [awaitLinkOpen, h]⟩
  | fail => exact .inr (.inl ⟨e, rfl, by simp [awaitLinkOpen, h]⟩)
  | notYet => exact .inr (.inr ⟨e, rfl, by simp [awaitLinkOpen, h]⟩)

/-- Waiting for `LinkClose` ends in a closed session or more waiting. -/
theorem awaitLinkClose_cases (s : State) :
    (∃ e, s.env.takeClose = (.done, e) ∧ awaitLinkClose s = ((s.setEnv e).setPending none).finishClose) ∨
    (∃ e, s.env.takeClose = (.notYet, e) ∧ awaitLinkClose s = (s.setEnv e).setPending (some .linkClose)) := by
  rcases h : s.env.takeClose with ⟨a, e⟩
  cases a with
  | done => exact .inl ⟨e, rfl, by simp [awaitLinkClose, h]⟩
  | notYet => exact .inr ⟨e, rfl, by simp [awaitLinkClose, h]⟩

/-- Waiting for `TxWrite` ends in a record of what was accepted or more waiting. -/
theorem awaitTxWrite_cases (bs : Bytes7 Byte) (s : State) :
    (∃ k e, s.env.takeWrite = (.done k, e) ∧ awaitTxWrite bs s =
      (((s.setEnv e).setPending none).addTx ⟨bs, k⟩).respond (.sendCommand .ok)) ∨
    (∃ e, s.env.takeWrite = (.notYet, e) ∧ awaitTxWrite bs s = (s.setEnv e).setPending (some (.txWrite bs))) := by
  rcases h : s.env.takeWrite with ⟨a, e⟩
  cases a with
  | done k => exact .inl ⟨k, e, rfl, by simp [awaitTxWrite, h]⟩
  | notYet => exact .inr ⟨e, rfl, by simp [awaitTxWrite, h]⟩

/-- An operation runs when none is in progress. -/
@[simp] theorem whenIdle_idle {s : State} (h : s.pending = none) (f : State → State) : s.whenIdle f = f s := by
  simp [State.whenIdle, h]

/-- A request while another operation is in progress is refused. -/
theorem whenIdle_busy {s : State} {op : Pending} (h : s.pending = some op) (f : State → State) :
    s.whenIdle f = s.refuse .concurrentCaller := by simp [State.whenIdle, h]

@[simp] theorem exec_openLink (path : Path) (baud : Word32) (s : State) :
    exec (.openLink path baud) s = .next (s.whenIdle (openLink path baud)) := rfl

@[simp] theorem exec_closeLink (s : State) : exec .closeLink s = .next (s.whenIdle closeLink) := rfl

@[simp] theorem exec_sendCommand (src dst : Nibble) (angle : Int) (s : State) :
    exec (.sendCommand src dst angle) s = .next (s.whenIdle (sendCommand src dst angle)) := rfl

@[simp] theorem exec_pollStatus (s : State) : exec .pollStatus s = .next (s.whenIdle pollStatus) := rfl

@[simp] theorem exec_commandFrame (src dst : Nibble) (angle : Int) (ck : Word16) (s : State) :
    exec (.commandFrame src dst angle ck) s = .next (s.deliver (bytes7List (layCommand s.params src dst angle ck))) := rfl

@[simp] theorem exec_statusFrame (src dst : Nibble) (status : Byte) (ck : Word16) (s : State) :
    exec (.statusFrame src dst status ck) s = .next (s.deliver (bytes6List (layStatus s.params src dst status ck))) := rfl

end Sys2Proof.Machine
end

