-- ==== Sys2Proof/Certificates/Slice0/Obligations.lean ====
section
/-! DEFINITION. Certificates/Slice0/Obligations.lean: the statements for the provers. Each docstring names the rules it
formalises. Where a statement rests on a choice of the model, the docstring names the log entry. -/

open Sys2Proof Sys2Proof.Machine

/-! ### Encodings -/

/-- Decoding an encoded well-formed instruction gives it back, for every instruction and every parameter set
(30_encoding.md R73, R74, R78, R79). -/
def Obligations.DecodeOfEncodeGivesTheInstruction : Prop :=
  ∀ (p : Params) (i : Instr), i.wellFormed p = true → decode p (encode p i) = .instr i

/-- Each accepted request word and each accepted frame has one meaning: encoding what it decodes to gives the word, and
the bytes, back; the side operands of OPEN are kept (30_encoding.md R78, R87). -/
def Obligations.EncodeOfDecodeGivesTheBits : Prop :=
  (∀ (p : Params) (w : Word32) (path : Path) (baud : Word32) (i : Instr),
    decode p (.request w path baud) = .instr i →
      (∃ path' baud', encode p i = .request w path' baud') ∧
      ∀ q r, i = .openLink q r → q = path ∧ r = baud) ∧
  ∀ (p : Params) (k : FrameKind) (bs : List Byte) (i : Instr),
    decode p (.wire k bs) = .instr i → encode p i = .wire k bs

/-- What the decoder accepts is well formed (30_encoding.md R77). -/
def Obligations.DecodedIsWellFormed : Prop :=
  ∀ (p : Params) (e : Encoded) (i : Instr), decode p e = .instr i → i.wellFormed p = true

/-- Which request words are refused, and that a refused request sets the mark with no other effect, no response
included (30_encoding.md R80). The list of reasons is the model's (log entry 6). -/
def Obligations.ReservedRequestsAreRefused : Prop :=
  (∀ (p : Params) (w : Word32) (path : Path) (baud : Word32) (r : RefusalReason),
    decode p (.request w path baud) = .reserved r ↔
      (r = .reservedOp ∧ (w.toNat % 256 = 0 ∨ 5 ≤ w.toNat % 256)) ∨
      (r = .reservedBits ∧ (w.toNat % 256 = 1 ∨ w.toNat % 256 = 2 ∨ w.toNat % 256 = 4) ∧ w.toNat / 256 ≠ 0)) ∧
  ∀ (s : State) (w : Word32) (path : Path) (baud : Word32) (rest : List Input) (r : RefusalReason),
    s.pending = none → s.inputs = .encoded (.request w path baud) :: rest →
    decode s.params (.request w path baud) = .reserved r →
      step s = .next { s with inputs := rest, refused := true, refusals := s.refusals ++ [r] }

/-- The fields of a SEND_COMMAND word (30_encoding.md R78). -/
def Obligations.SendWordFields : Prop :=
  ∀ (p : Params) (w : Word32) (path : Path) (baud : Word32), w.toNat % 256 = 3 →
    ∃ src dst angle, decode p (.request w path baud) = .instr (.sendCommand src dst angle) ∧
      src.toNat = w.toNat / 256 % 16 ∧ dst.toNat = w.toNat / 4096 % 16 ∧
      angle = if w.toNat / 65536 < 32768 then (w.toNat / 65536 : Int) else (w.toNat / 65536 : Int) - 65536

/-- Words and frames written out from 95_test_vectors.md (W-1, W-2, W-3, W-10, W-12, ENC-1, ENC-9) decode to the
instructions they stand for. The parameters are the vectors', not the hardware's. -/
def Obligations.SampleEncodingsDecode : Prop :=
  decode vectorParams (.request 0x00000001#32 [0x41#8] 115200#32) = .instr (.openLink [0x41#8] 115200#32) ∧
  decode vectorParams (.request 0x00000002#32 [] 0) = .instr .closeLink ∧
  decode vectorParams (.request 0x12341003#32 [] 0) = .instr (.sendCommand 0 1 4660) ∧
  decode vectorParams (.request 0x80000103#32 [] 0) = .instr (.sendCommand 1 0 (-32768)) ∧
  decode vectorParams (.request 0x00000004#32 [] 0) = .instr .pollStatus ∧
  decode vectorParams (.wire .command [0xFE#8, 0xCA#8, 0x10#8, 0x34#8, 0x12#8, 0x2D#8, 0xE6#8]) =
    .instr (.commandFrame 0 1 4660 0xE62D#16) ∧
  decode vectorParams (.wire .status [0xFE#8, 0xCA#8, 0x21#8, 0x00#8, 0xF0#8, 0xE1#8]) =
    .instr (.statusFrame 1 2 0x00#8 0xE1F0#16)

/-! ### Checksum -/

/-- For an odd polynomial CHECKSUM is injective on payloads of 1 byte and on payloads of 2 bytes, so every status byte
and every angle has its own checksum, and a changed payload never validates against the old checksum field
(41_checksum.md R105). -/
def Obligations.PayloadCorruptionIsDetected : Prop :=
  ∀ p : Params, p.crc.poly.getLsbD 0 = true →
    (∀ d d' : List Byte, d.length = d'.length → (d.length = 1 ∨ d.length = 2) → d ≠ d' →
      checksum p.crc d ≠ checksum p.crc d' ∧ (validate p.crc d' (checksum p.crc d)).1 = false) ∧
    (∀ x y : Byte, x ≠ y → statusCk p x ≠ statusCk p y) ∧
    ∀ a b : Int, -32768 ≤ a → a ≤ 32767 → -32768 ≤ b → b ≤ 32767 → a ≠ b → commandCk p a ≠ commandCk p b

/-- For payloads of one length CHECKSUM is affine over GF(2): it sends the XOR of three to the XOR of their checksums,
for every parameter set (the argument of 41_checksum.md R105). -/
def Obligations.ChecksumIsAffine : Prop :=
  ∀ (c : CrcParams) (x y z : List Byte), x.length = y.length → y.length = z.length →
    checksum c (List.zipWith (· ^^^ ·) (List.zipWith (· ^^^ ·) x y) z) = checksum c x ^^^ checksum c y ^^^ checksum c z

/-- The empty input (41_checksum.md R107). -/
def Obligations.ChecksumOfNothing : Prop :=
  (∀ c : CrcParams, checksum c [] = (if c.refout then c.init.reverse else c.init) ^^^ c.xorout) ∧
  checksum crcCcittFalse [] = 0xFFFF#16

/-- The catalogue check values over ASCII "123456789" (41_checksum.md R102). -/
def Obligations.CatalogueCheckValues : Prop :=
  checksum crcCcittFalse [0x31#8, 0x32#8, 0x33#8, 0x34#8, 0x35#8, 0x36#8, 0x37#8, 0x38#8, 0x39#8] = 0x29B1#16 ∧
  checksum crcXmodem [0x31#8, 0x32#8, 0x33#8, 0x34#8, 0x35#8, 0x36#8, 0x37#8, 0x38#8, 0x39#8] = 0x31C3#16 ∧
  checksum crcKermit [0x31#8, 0x32#8, 0x33#8, 0x34#8, 0x35#8, 0x36#8, 0x37#8, 0x38#8, 0x39#8] = 0x2189#16 ∧
  checksum crcArc [0x31#8, 0x32#8, 0x33#8, 0x34#8, 0x35#8, 0x36#8, 0x37#8, 0x38#8, 0x39#8] = 0xBB3D#16 ∧
  checksum crcModbus [0x31#8, 0x32#8, 0x33#8, 0x34#8, 0x35#8, 0x36#8, 0x37#8, 0x38#8, 0x39#8] = 0x4B37#16

/-- Zero-initialised variants: a payload of zeros has checksum 0, and a magic followed by four zero bytes decodes as
status 0; not so under the default set (70_reset_and_hazards.md R272). -/
def Obligations.ZeroInitialisedVariants : Prop :=
  (∀ c : CrcParams, c.init = 0 → c.xorout = 0 → ∀ n : Nat, checksum c (List.replicate n 0) = 0) ∧
  (∀ p : Params, p.crc.init = 0 → p.crc.xorout = 0 →
    parseStatus p ⟨loByte p.magic, hiByte p.magic, 0, 0, 0, 0⟩ = .decoded ⟨0, 0, 0, 0⟩) ∧
  (crcXmodem.init = 0 ∧ crcXmodem.xorout = 0) ∧ (crcArc.init = 0 ∧ crcArc.xorout = 0) ∧
  checksum crcCcittFalse [0] = 0xE1F0#16

/-! ### Frames -/

/-- Packing and unpacking a header are inverse, both ways, under either nibble order (42_frame_codec.md R121). -/
def Obligations.HeaderPackingIsInvertible : Prop :=
  (∀ (p : Params) (s d : Nibble), unpackHeader p (packHeader p s d) = (s, d)) ∧
  (∀ (p : Params) (h : Byte), packHeader p (unpackHeader p h).1 (unpackHeader p h).2 = h) ∧
  ∀ (p : Params) (h : Byte), unpackHeader p h =
    if p.hdrSrcLow then (h.extractLsb' 0 4, h.extractLsb' 4 4) else (h.extractLsb' 4 4, h.extractLsb' 0 4)

/-- Parsing an encoded frame gives its operands and its checksum back, per frame kind (42_frame_codec.md R127). -/
def Obligations.ParseOfEncodePerKind : Prop :=
  (∀ (p : Params) (s d : Nibble) (a : Int), -32768 ≤ a → a ≤ 32767 →
    parseCommand p (encodeCommand p s d a) = .decoded ⟨s, d, a, checksum p.crc (le16 (word16 a))⟩) ∧
  ∀ (p : Params) (s d : Nibble) (x : Byte),
    parseStatus p (encodeStatus p s d x) = .decoded ⟨s, d, x, checksum p.crc [x]⟩

/-- Single-bit flips of a command frame: payload (odd polynomial) and checksum flips fail with ChecksumMismatch, magic
flips with MagicMismatch, and a header flip is delivered (42_frame_codec.md R128, 41_checksum.md R106). -/
def Obligations.CommandFrameBitFlips : Prop :=
  ∀ (p : Params) (s d : Nibble) (a : Int) (k : Nat), -32768 ≤ a → a ≤ 32767 → k < 8 →
    let f := encodeCommand p s d a
    let m : Byte := 1#8 <<< k
    (p.crc.poly.getLsbD 0 = true →
      (∃ e, parseCommand p { f with b3 := f.b3 ^^^ m } = .failed (.checksumMismatch (commandCk p a) e)) ∧
      (∃ e, parseCommand p { f with b4 := f.b4 ^^^ m } = .failed (.checksumMismatch (commandCk p a) e))) ∧
    (∃ o, parseCommand p { f with b5 := f.b5 ^^^ m } = .failed (.checksumMismatch o (commandCk p a))) ∧
    (∃ o, parseCommand p { f with b6 := f.b6 ^^^ m } = .failed (.checksumMismatch o (commandCk p a))) ∧
    (parseCommand p { f with b2 := f.b2 ^^^ m } =
      .decoded ⟨headerSrc p (f.b2 ^^^ m), headerDst p (f.b2 ^^^ m), a, commandCk p a⟩) ∧
    parseCommand p { f with b0 := f.b0 ^^^ m } = .failed .magicMismatch ∧
    parseCommand p { f with b1 := f.b1 ^^^ m } = .failed .magicMismatch

/-- Single-bit flips of a status frame (42_frame_codec.md R128, 41_checksum.md R106). -/
def Obligations.StatusFrameBitFlips : Prop :=
  ∀ (p : Params) (s d : Nibble) (x : Byte) (k : Nat), k < 8 →
    let f := encodeStatus p s d x
    let m : Byte := 1#8 <<< k
    (p.crc.poly.getLsbD 0 = true →
      ∃ e, parseStatus p { f with b3 := f.b3 ^^^ m } = .failed (.checksumMismatch (statusCk p x) e)) ∧
    (∃ o, parseStatus p { f with b4 := f.b4 ^^^ m } = .failed (.checksumMismatch o (statusCk p x))) ∧
    (∃ o, parseStatus p { f with b5 := f.b5 ^^^ m } = .failed (.checksumMismatch o (statusCk p x))) ∧
    (parseStatus p { f with b2 := f.b2 ^^^ m } =
      .decoded ⟨headerSrc p (f.b2 ^^^ m), headerDst p (f.b2 ^^^ m), x, statusCk p x⟩) ∧
    parseStatus p { f with b0 := f.b0 ^^^ m } = .failed .magicMismatch ∧
    parseStatus p { f with b1 := f.b1 ^^^ m } = .failed .magicMismatch

/-! ### The decode cycle -/

/-- Five transitions of the table from IDLE are one decode cycle: same outcome, same final state
(43_resync_decoder.md R151, R159). -/
def Obligations.DecodeCycleRunsTheTransitionTable : Prop :=
  ∀ (s : State) (i : BitVec 1), runCycle 5 (s.setDec .idle i) = .stop (decodeCycle s).1 (decodeCycle s).2

/-- When E delivers the six bytes of `f`, the outcome is PARSE_STATUS(f). The bytes behind a mismatching magic byte
stay in the stream, and a mismatching first byte ends the cycle after one RxByte (43_resync_decoder.md R160). -/
def Obligations.CycleAgreesWithParser : Prop :=
  ∀ (s : State) (f : Bytes6 Byte) (rest : List RxItem), s.env.rx = frameItems f ++ rest →
    (decodeCycle s).1 = parseStatus s.params f ∧
    (f.b0 ≠ magicWire s.params 0#1 →
      (decodeCycle s).2.env.rx = (frameItems f).drop 1 ++ rest ∧
      (decodeCycle s).2.issued = s.issued ++ [.rxByte s.params.tByteMs (.byte f.b0)]) ∧
    (f.b0 = magicWire s.params 0#1 → f.b1 ≠ magicWire s.params 1#1 →
      (decodeCycle s).2.env.rx = (frameItems f).drop 2 ++ rest) ∧
    (f.b0 = magicWire s.params 0#1 → f.b1 = magicWire s.params 1#1 → (decodeCycle s).2.env.rx = rest)

/-- Which primitives a cycle issues, with which budgets, and how many RX bytes it consumes, per outcome
(43_resync_decoder.md R158; 20_memory.md R59; 44_link_session.md R191). -/
def Obligations.BytesConsumedPerOutcome : Prop :=
  ∀ s : State, ∃ cs : List LinkCall, (decodeCycle s).2.issued = s.issued ++ cs ∧
    (∀ (j : Nat) (c : LinkCall), cs[j]? = some c →
      if j < 2 then ∃ a, c = .rxByte s.params.tByteMs a
      else ∃ a, c = .rxBlock 4 (s.baud.map fun r => tBodyMs r.toNat) a) ∧
    match (decodeCycle s).1 with
    | .failed .timeout =>
      (cs.length = 1 ∧ (consumedBytes cs).length = 0) ∨ (cs.length = 2 ∧ (consumedBytes cs).length = 1)
    | .failed .magicMismatch =>
      (cs.length = 1 ∧ (consumedBytes cs).length = 1) ∨ (cs.length = 2 ∧ (consumedBytes cs).length = 2)
    | .failed .incompleteFrame => cs.length = 3 ∧ ∃ k ≤ 3, (consumedBytes cs).length = 2 + k
    | .failed (.checksumMismatch _ _) => cs.length = 3 ∧ (consumedBytes cs).length = 6
    | .decoded _ => cs.length = 3 ∧ (consumedBytes cs).length = 6

/-- A cycle ends in Timeout exactly when an RxByte meets a silence before any mismatch (43_resync_decoder.md R165). -/
def Obligations.TimeoutExactlyOnSilenceBeforeMismatch : Prop :=
  ∀ s : State, (decodeCycle s).1 = .failed .timeout ↔
    (s.env.takeRx.1 = .gap ∨
      (s.env.takeRx.1 = .byte (magicWire s.params 0#1) ∧ s.env.takeRx.2.takeRx.1 = .gap))

/-- A garbage byte equal to the first magic byte, just before a frame, makes the cycle consume the frame's own first
byte: no re-anchoring (43_resync_decoder.md R154, R163). -/
def Obligations.FrameLostAfterPartialMagic : Prop :=
  ∀ (s : State) (f : Bytes6 Byte) (rest : List RxItem),
    magicWire s.params 0#1 ≠ magicWire s.params 1#1 → f.b0 = magicWire s.params 0#1 →
    s.env.rx = .byte (magicWire s.params 0#1) :: (frameItems f ++ rest) →
      (decodeCycle s).1 = .failed .magicMismatch ∧ (decodeCycle s).2.env.rx = (frameItems f).drop 1 ++ rest

/-- A body that falls silent after `k < 4` bytes fails as IncompleteFrame, and its bytes are gone: a frame split across
two cycles is not decoded (43_resync_decoder.md R155, 70_reset_and_hazards.md R269). That the silence is used up with
the read is the model's (log entry 3). -/
def Obligations.SplitFrameIsLost : Prop :=
  ∀ (s : State) (body : List Byte) (rest : List RxItem), body.length < 4 →
    s.env.rx = magicItems s.params ++ body.map RxItem.byte ++ .gap :: rest →
      (decodeCycle s).1 = .failed .incompleteFrame ∧ (decodeCycle s).2.env.rx = rest

/-- Perpetual misalignment under the example magic and checksum: on `n` periods of the repeated frame entered at
offset 2, `n` polls each fail with ChecksumMismatch(0xCAFE, 0xF360) and consume one period
(43_resync_decoder.md R164). -/
def Obligations.PerpetualMisalignment : Prop :=
  ∀ (n : Nat) (s : State) (rest : List RxItem), s.params.magic = 0xCAFE#16 → s.params.crc = crcCcittFalse →
    s.pending = none → s.sess = .opened →
    s.env.rx = (List.replicate n (frameItems ⟨0xFE#8, 0xCA#8, 0xF6#8, 0x99#8, 0xFE#8, 0xCA#8⟩)).flatten ++ rest →
      ∃ t, execAll (List.replicate n .pollStatus) s = .next t ∧ t.env.rx = rest ∧ t.sess = .opened ∧
        t.respTrace = s.respTrace ++ List.replicate n (.pollStatus .checksumMismatch none) ∧
        t.logTrace = s.logTrace ++ List.replicate n (.checksumMismatch 0xCAFE#16 0xF360#16)

/-- A command frame that arrives on RX is read as a status frame: its angle's low byte against the word of the angle's
high byte and the checksum's low byte, and its last byte is left (43_resync_decoder.md R166). That COMMAND_FRAME is an
arrival on RX is the model's choice (log entry 9). -/
def Obligations.ForeignTrafficIsReadAsStatus : Prop :=
  ∀ (s : State) (src dst : Nibble) (angle : Int) (ck : Word16),
    s.pending = none → s.sess = .opened → s.env.rx = [] →
      ∃ t u, exec (.commandFrame src dst angle ck) s = .next t ∧ exec .pollStatus t = .next u ∧
        u.env.rx = [.byte (hiByte ck)] ∧
        u.respTrace = s.respTrace ++
          [if fromLe16 (hiByte (word16 angle)) (loByte ck) = checksum s.params.crc [loByte (word16 angle)] then
            .pollStatus .ok (some ⟨src, dst, loByte (word16 angle), fromLe16 (hiByte (word16 angle)) (loByte ck)⟩)
          else .pollStatus .checksumMismatch none]

/-- A well-formed status frame that arrives in an empty stream is what the next poll returns, with every field, no log
event, and nothing left (43_resync_decoder.md R162, 60_exceptions.md R235). That STATUS_FRAME is an arrival on RX is the
model's choice (log entry 9). -/
def Obligations.ArrivedStatusFrameIsPolled : Prop :=
  ∀ (s : State) (src dst : Nibble) (status : Byte) (ck : Word16),
    (Instr.statusFrame src dst status ck).wellFormed s.params = true →
    s.pending = none → s.sess = .opened → s.env.rx = [] →
      ∃ t u, exec (.statusFrame src dst status ck) s = .next t ∧ exec .pollStatus t = .next u ∧
        u.respTrace = s.respTrace ++ [.pollStatus .ok (some ⟨src, dst, status, ck⟩)] ∧
        u.logTrace = s.logTrace ∧ u.env.rx = [] ∧ u.sess = .opened

/-- Garbage of `n` bytes, none of them the first magic byte, costs `n` polls, each MAGIC_MISMATCH and one byte; the next
poll starts at the frame's magic and returns it (43_resync_decoder.md R162). -/
def Obligations.ResynchronizesAfterGarbage : Prop :=
  ∀ (g : List Byte) (s : State) (src dst : Nibble) (status : Byte) (rest : List RxItem),
    (∀ b ∈ g, b ≠ magicWire s.params 0#1) → s.pending = none → s.sess = .opened →
    s.env.rx = g.map RxItem.byte ++ frameItems (encodeStatus s.params src dst status) ++ rest →
      ∃ t, execAll (List.replicate (g.length + 1) .pollStatus) s = .next t ∧ t.env.rx = rest ∧
        t.logTrace = s.logTrace ∧ t.respTrace = s.respTrace ++
          List.replicate g.length (.pollStatus .magicMismatch none) ++
          [.pollStatus .ok (some ⟨src, dst, status, statusCk s.params status⟩)]

/-! ### The timeout controller -/

/-- The body budget, its table, that it is never shorter than the time a whole frame takes, and that the body read is
issued with the budget of the rate held (44_link_session.md R192). -/
def Obligations.BodyBudgetCoversTheFrame : Prop :=
  (∀ rate : Nat, 0 < rate → tBodyMs rate = (60000 / rate) * 2 + 5) ∧
  (tBodyMs 115200 = 5 ∧ tBodyMs 57600 = 7 ∧ tBodyMs 38400 = 7 ∧ tBodyMs 19200 = 11 ∧ tBodyMs 9600 = 17 ∧
    tBodyMs 4800 = 29 ∧ tBodyMs 1200 = 105) ∧
  (∀ rate : Nat, 60000 < rate → tBodyMs rate = 5) ∧
  (∀ rate : Nat, 0 < rate → (60000 : ℚ) / rate ≤ tBodyMs rate) ∧
  ∀ (s : State) (rate : Word32), s.baud = some rate →
    ∃ a, s.rxBlock.2.issued = s.issued ++ [.rxBlock 4 (some (tBodyMs rate.toNat)) a]

/-- The budgets of the reads a poll issues sum to at most two seek budgets and one body budget, and a poll issues none
when no link is held. This sum is the wait of 44_link_session.md R193 only under E's duty to answer each read within its
budget (60_exceptions.md R240), on which the model rests (log entry 16, DEDUCED). -/
def Obligations.PollWaitIsBounded : Prop :=
  (∀ s : State, s.pending = none → ∃ t cs, exec .pollStatus s = .next t ∧ t.issued = s.issued ++ cs ∧
    (s.sess ≠ .opened → cs = []) ∧
    ∀ rate, s.baud = some rate → waitBound cs ≤ 2 * s.params.tByteMs + tBodyMs rate.toNat) ∧
  2 * 1 + tBodyMs 115200 = 7

/-! ### The host operations: results, and where they complete -/

/-- OPEN: refused while open; rate 0 and a failed LinkOpen degrade the session and log once; an answered LinkOpen opens
it (44_link_session.md R194). The 8 data bits and no parity recorded are an inference (log entry 20, DEDUCED), and that a
refusal is a next state with a recorded reason and no response is the model's choice (log entry 6). -/
def Obligations.OpenResults : Prop :=
  ∀ (s : State) (path : Path) (rate : Word32), s.pending = none →
    (s.sess = .opened → exec (.openLink path rate) s =
      .next { s with refused := true, refusals := s.refusals ++ [.openWhileOpen] }) ∧
    (s.sess ≠ .opened → rate = 0#32 → exec (.openLink path rate) s =
      .next { s with
        sess := .powerless, handle := none, baud := none
        logTrace := s.logTrace ++ [.cannotOpen], respTrace := s.respTrace ++ [.openLink .openFailure] }) ∧
    (s.sess ≠ .opened → rate ≠ 0#32 → ∀ h e, s.env.takeOpen = (.ok h, e) → exec (.openLink path rate) s =
      .next { s with
        sess := .opened, handle := some h, baud := some rate, env := e
        issued := s.issued ++ [.linkOpen path rate ⟨8, false, 1⟩]
        respTrace := s.respTrace ++ [.openLink .ok] }) ∧
    (s.sess ≠ .opened → rate ≠ 0#32 → ∀ e, s.env.takeOpen = (.fail, e) → exec (.openLink path rate) s =
      .next { s with
        sess := .powerless, handle := none, baud := none, env := e
        issued := s.issued ++ [.linkOpen path rate ⟨8, false, 1⟩]
        logTrace := s.logTrace ++ [.cannotOpen], respTrace := s.respTrace ++ [.openLink .openFailure] })

/-- CLOSE: closes in every mode and answers OK; LinkClose is issued only when open (44_link_session.md R195). -/
def Obligations.CloseResults : Prop :=
  ∀ s : State, s.pending = none →
    (s.sess ≠ .opened → exec .closeLink s =
      .next { s with
        sess := .closed, handle := none, baud := none, respTrace := s.respTrace ++ [.closeLink .ok] }) ∧
    (s.sess = .opened → ∀ e, s.env.takeClose = (.done, e) → exec .closeLink s =
      .next { s with
        sess := .closed, handle := none, baud := none, env := e
        issued := s.issued ++ [.linkClose s.handle], respTrace := s.respTrace ++ [.closeLink .ok] })

/-- SEND_COMMAND: a no-op when not open; when open the encoded frame is put in `tx_buf`, written, recorded with the
count accepted, and answered OK whatever the count (44_link_session.md R196). -/
def Obligations.SendCommandResults : Prop :=
  ∀ (s : State) (src dst : Nibble) (angle : Int), s.pending = none →
    (s.sess ≠ .opened → exec (.sendCommand src dst angle) s =
      .next { s with respTrace := s.respTrace ++ [.sendCommand .notOpen] }) ∧
    (s.sess = .opened → ∀ k e, s.env.takeWrite = (.done k, e) → ∀ f, f = encodeCommand s.params src dst angle →
      exec (.sendCommand src dst angle) s =
        .next { s with
          txBuf := ⟨some f.b0, some f.b1, some f.b2, some f.b3, some f.b4, some f.b5, some f.b6⟩, env := e
          issued := s.issued ++ [.txWrite f], txTrace := s.txTrace ++ [⟨f, k⟩]
          respTrace := s.respTrace ++ [.sendCommand .ok] })

/-- POLL_STATUS: a no-op when not open; when open the outcome of one decode cycle decides the code, the frame and the
log event (44_link_session.md R197). -/
def Obligations.PollStatusResults : Prop :=
  ∀ s : State, s.pending = none →
    (s.sess ≠ .opened → exec .pollStatus s =
      .next { s with respTrace := s.respTrace ++ [.pollStatus .notOpen none] }) ∧
    (s.sess = .opened → ∀ o t, decodeCycle s = (o, t) →
      (∀ fr, o = .decoded fr → exec .pollStatus s =
        .next { t with respTrace := s.respTrace ++ [.pollStatus .ok (some fr)] }) ∧
      (o = .failed .timeout → exec .pollStatus s =
        .next { t with
          logTrace := s.logTrace ++ (if s.params.logSeekTimeout then [.frameTimeout .seek] else [])
          respTrace := s.respTrace ++ [.pollStatus .timeout none] }) ∧
      (o = .failed .magicMismatch → exec .pollStatus s =
        .next { t with respTrace := s.respTrace ++ [.pollStatus .magicMismatch none] }) ∧
      (o = .failed .incompleteFrame → exec .pollStatus s =
        .next { t with
          logTrace := s.logTrace ++ [.frameTimeout .body]
          respTrace := s.respTrace ++ [.pollStatus .incompleteFrame none] }) ∧
      (∀ ob ex, o = .failed (.checksumMismatch ob ex) → exec .pollStatus s =
        .next { t with
          logTrace := s.logTrace ++ [.checksumMismatch ob ex]
          respTrace := s.respTrace ++ [.pollStatus .checksumMismatch none] }))

/-- The two wire frames complete in every state: their bytes, at the offsets of R73 and R74, join the RX stream behind
what is there, and nothing else happens (30_encoding.md R73, R74; 60_exceptions.md R235). That a frame row is an arrival
on RX is the model's choice (log entry 9). -/
def Obligations.WireFramesArrive : Prop :=
  (∀ (s : State) (src dst : Nibble) (angle : Int) (ck : Word16), exec (.commandFrame src dst angle ck) s =
    .next { s with env := { s.env with rx := s.env.rx ++
      [.byte (s.params.magic.extractLsb' 0 8), .byte (s.params.magic.extractLsb' 8 8),
        .byte (if s.params.hdrSrcLow then dst ++ src else src ++ dst),
        .byte ((BitVec.ofInt 16 angle).extractLsb' 0 8), .byte ((BitVec.ofInt 16 angle).extractLsb' 8 8),
        .byte (ck.extractLsb' 0 8), .byte (ck.extractLsb' 8 8)] } }) ∧
  ∀ (s : State) (src dst : Nibble) (status : Byte) (ck : Word16), exec (.statusFrame src dst status ck) s =
    .next { s with env := { s.env with rx := s.env.rx ++
      [.byte (s.params.magic.extractLsb' 0 8), .byte (s.params.magic.extractLsb' 8 8),
        .byte (if s.params.hdrSrcLow then dst ++ src else src ++ dst),
        .byte status, .byte (ck.extractLsb' 0 8), .byte (ck.extractLsb' 8 8)] } }

/-- An unanswered primitive holds its operation back without a response, and an answer that comes later gives what the
same answer would have given at once, also while H's next request waits (60_exceptions.md R234, 44_link_session.md R200,
10_state.md R20). The form of the wait is the model's (log entry 5). -/
def Obligations.LateAnswerGivesTheSameResult : Prop :=
  (∀ (s : State) (path : Path) (rate : Word32) (a : OpenAnswer) (l : List OpenAnswer),
    s.pending = none → onlyHostWaits s.inputs = true → s.sess ≠ .opened → rate ≠ 0#32 → s.env.opens = .notYet :: a :: l →
      ∃ t, exec (.openLink path rate) s = .next t ∧ t.pending = some (.linkOpen path rate) ∧
        t.respTrace = s.respTrace ∧ t.sess = s.sess ∧
        step t = exec (.openLink path rate) { s with env := { s.env with opens := a :: l } }) ∧
  (∀ (s : State) (a : CloseAnswer) (l : List CloseAnswer),
    s.pending = none → onlyHostWaits s.inputs = true → s.sess = .opened → s.env.closes = .notYet :: a :: l →
      ∃ t, exec .closeLink s = .next t ∧ t.pending = some .linkClose ∧ t.respTrace = s.respTrace ∧ t.sess = s.sess ∧
        step t = exec .closeLink { s with env := { s.env with closes := a :: l } }) ∧
  ∀ (s : State) (src dst : Nibble) (angle : Int) (a : WriteAnswer) (l : List WriteAnswer),
    s.pending = none → onlyHostWaits s.inputs = true → s.sess = .opened → s.env.writes = .notYet :: a :: l →
      ∃ t, exec (.sendCommand src dst angle) s = .next t ∧
        t.pending = some (.txWrite (encodeCommand s.params src dst angle)) ∧ t.respTrace = s.respTrace ∧
        t.txTrace = s.txTrace ∧
        step t = exec (.sendCommand src dst angle) { s with env := { s.env with writes := a :: l } }

/-- A short write is silent: the response is OK whatever count was accepted, and the TX stream gets exactly the accepted
prefix (20_memory.md R53, 70_reset_and_hazards.md R270). -/
def Obligations.ShortWritesAreSilent : Prop :=
  ∀ (s : State) (src dst : Nibble) (angle : Int) (k : Fin 8) (l : List WriteAnswer),
    s.pending = none → s.sess = .opened → s.env.writes = .done k :: l →
      ∃ t, exec (.sendCommand src dst angle) s = .next t ∧ t.respTrace = s.respTrace ++ [.sendCommand .ok] ∧
        txStream t.txTrace =
          txStream s.txTrace ++ (bytes7List (encodeCommand s.params src dst angle)).take k.val ∧
        t.logTrace = s.logTrace ∧ t.refused = s.refused

/-! ### Frames: what each instruction leaves unchanged -/

/-- OPEN changes at most the session, the log, the response and primitive records, the operation in progress, the
refusal mark and E's LinkOpen answers: both buffers, the decoder, `tx_trace` and the rest are unchanged
(44_link_session.md R194). That E's RX stream is unchanged is not R194's but the model's (log entry 10, DEDUCED). -/
def Obligations.OpenFrame : Prop :=
  ∀ (s t : State) (path : Path) (rate : Word32), exec (.openLink path rate) s = .next t →
    t = { s with
      sess := t.sess, handle := t.handle, baud := t.baud, logTrace := t.logTrace, respTrace := t.respTrace
      issued := t.issued, pending := t.pending, refused := t.refused, refusals := t.refusals, env := t.env } ∧
    t.env = { s.env with opens := t.env.opens, draws := t.env.draws }

/-- CLOSE changes at most the session, the response and primitive records, the operation in progress, the refusal mark
and E's LinkClose answers (44_link_session.md R195). That E's RX stream is unchanged is not R195's but the model's (log
entry 10, DEDUCED). -/
def Obligations.CloseFrame : Prop :=
  ∀ s t : State, exec .closeLink s = .next t →
    t = { s with
      sess := t.sess, handle := t.handle, baud := t.baud, respTrace := t.respTrace, issued := t.issued
      pending := t.pending, refused := t.refused, refusals := t.refusals, env := t.env } ∧
    t.env = { s.env with closes := t.env.closes, draws := t.env.draws }

/-- SEND_COMMAND changes at most `tx_buf`, `tx_trace`, the response and primitive records, the operation in progress,
the refusal mark and E's TxWrite answers (44_link_session.md R196). -/
def Obligations.SendCommandFrame : Prop :=
  ∀ (s t : State) (src dst : Nibble) (angle : Int), exec (.sendCommand src dst angle) s = .next t →
    t = { s with
      txBuf := t.txBuf, txTrace := t.txTrace, respTrace := t.respTrace, issued := t.issued, pending := t.pending
      refused := t.refused, refusals := t.refusals, env := t.env } ∧
    t.env = { s.env with writes := t.env.writes, draws := t.env.draws }

/-- POLL_STATUS changes at most the decoder's own state, the log, the response and read records, the refusal mark and
the RX stream, of which it consumes a prefix; a decoder at rest is at rest again (44_link_session.md R197,
60_exceptions.md R231). -/
def Obligations.PollStatusFrame : Prop :=
  ∀ s t : State, exec .pollStatus s = .next t →
    t = { s with
      decState := t.decState, seekIdx := t.seekIdx, rxBuf := t.rxBuf, logTrace := t.logTrace
      respTrace := t.respTrace, issued := t.issued, refused := t.refused, refusals := t.refusals, env := t.env } ∧
    t.env = { s.env with rx := t.env.rx, draws := t.env.draws } ∧
    (∃ used, s.env.rx = used ++ t.env.rx) ∧ (s.decoderAtRest → t.decoderAtRest)

/-- A frame on the wire changes nothing but the end of the RX stream (60_exceptions.md R235; log entry 9). -/
def Obligations.WireFramesFrame : Prop :=
  ∀ (s t : State) (i : Instr), Instr.isHostOperation i = false → exec i s = .next t →
    ∃ bs : List Byte, t = { s with env := { s.env with rx := s.env.rx ++ bs.map RxItem.byte } }

/-! ### Whole-machine rules -/

/-- While no link is held, any sequence of sends and polls changes nothing but the responses, each NOT_OPEN: no
primitive, no record, no log event (44_link_session.md R198). -/
def Obligations.DegradedModeIsSilent : Prop :=
  ∀ (is : List Instr) (s : State), s.pending = none → s.sess ≠ .opened →
    (∀ i ∈ is, (silentResponse i).isSome = true) →
      execAll is s = .next { s with respTrace := s.respTrace ++ is.filterMap silentResponse }

/-- Only OPEN and CLOSE (at once, or resumed when their primitive is answered) and a reset write `sess`
(44_link_session.md R202). -/
def Obligations.OnlyOpenAndCloseChangeTheSession : Prop :=
  (∀ (i : Instr) (s t : State), exec i s = .next t → (∀ path rate, i ≠ .openLink path rate) → i ≠ .closeLink →
    t.sess = s.sess ∧ t.handle = s.handle ∧ t.baud = s.baud) ∧
  ∀ s t : State, step s = .next t → t.sess ≠ s.sess →
    fetch s = .reset ∨ (∃ path rate, fetch s = .run (.openLink path rate)) ∨ fetch s = .run .closeLink ∨
      (∃ path rate, fetch s = .resume (.linkOpen path rate)) ∨ fetch s = .resume .linkClose

/-- CLOSED and POWERLESS differ only in name: from the one or the other an instruction, and a step, gives states that
agree in every field but `sess`, and in `sess` too unless the instruction left it as it was (10_state.md R22). -/
def Obligations.ClosedAndPowerlessBehaveAlike : Prop :=
  (∀ (i : Instr) (s t : State), s.sess = .closed → exec i s = .next t →
    ∃ t', exec i { s with sess := .powerless } = .next t' ∧ { t' with sess := t.sess } = t ∧
      (t'.sess = t.sess ∨ (t.sess = .closed ∧ t'.sess = .powerless))) ∧
  ∀ s t : State, s.sess = .closed → step s = .next t →
    ∃ t', step { s with sess := .powerless } = .next t' ∧ { t' with sess := t.sess } = t ∧
      (t'.sess = t.sess ∨ (t.sess = .closed ∧ t'.sess = .powerless))

/-- No operation reads what the buffers held before it: other contents give states that agree in every field but the
buffers (10_state.md R25, R27). -/
def Obligations.OldBufferContentsAreNotObservable : Prop :=
  ∀ (i : Instr) (s t : State) (rx : Bytes6 (Option Byte)) (tx : Bytes7 (Option Byte)), exec i s = .next t →
    ∃ t', exec i { s with rxBuf := rx, txBuf := tx } = .next t' ∧
      { t' with rxBuf := t.rxBuf, txBuf := t.txBuf } = t

/-- `tx_trace` and `log_trace` grow by at most one entry in an operation and are read by none: other histories give the
same state with the same entries appended (10_state.md R29). -/
def Obligations.HistoriesGrowAndAreNotRead : Prop :=
  (∀ (i : Instr) (s t : State), exec i s = .next t →
    ∃ tx lg, t.txTrace = s.txTrace ++ tx ∧ tx.length ≤ 1 ∧ t.logTrace = s.logTrace ++ lg ∧ lg.length ≤ 1 ∧
      ∀ a l, exec i { s with txTrace := a, logTrace := l } =
        .next { t with txTrace := a ++ tx, logTrace := l ++ lg }) ∧
  ∀ s t : State, step s = .next t →
    ∃ tx lg, t.txTrace = s.txTrace ++ tx ∧ tx.length ≤ 1 ∧ t.logTrace = s.logTrace ++ lg ∧ lg.length ≤ 1

/-- The refusal mark is clear at the start of a run and sticky, also across a reset, and a step that sets it has refused
a request (10_state.md R28). -/
def Obligations.RefusalMarkIsSticky : Prop :=
  State.reset.refused = false ∧ ∀ s t : State, step s = .next t →
    (s.refused = true → t.refused = true) ∧
    (s.refused = false → t.refused = true → ∃ r, t.refusals = s.refusals ++ [r])

/-- A step refuses exactly in the cases of 60_exceptions.md R233, each with its reason, and sets the mark: a reserved
operation or reserved bits as the decoder finds them (30_encoding.md R80), OPEN while open, a caller beside the one
host. The record of reasons and the form of a concurrent request are the model's (log entries 6, 7). That a concurrent
caller is refused for that reason alone, even where its word is reserved or is OPEN while open, is the model's choice too:
R233 gives no order among its reasons (log entry 24, DESIGN CHOICE). -/
def Obligations.RefusalsHaveTheirCauses : Prop :=
  ∀ (s t : State) (r : RefusalReason), step s = .next t →
    (t.refusals = s.refusals ++ [r] ↔
      ((∃ w path baud rest, s.pending = none ∧ s.inputs = .encoded (.request w path baud) :: rest ∧
        decode s.params (.request w path baud) = .reserved r) ∨
      (r = .openWhileOpen ∧ s.sess = .opened ∧ s.pending = none ∧
        ∃ path rate, fetch s = .run (.openLink path rate)) ∨
      (r = .concurrentCaller ∧ ∃ e rest, s.inputs = .intruder e :: rest))) ∧
    (t.refusals = s.refusals ++ [r] → t.refused = true)

/-- No step writes the parameters, a reset included (10_state.md R30). -/
def Obligations.NoStepWritesTheParameters : Prop :=
  ∀ s t : State, step s = .next t → t.params = s.params

/-- Every step gives a next state: the block has no fault (60_exceptions.md R235, R238), and the spec's refusals and
waits are next states (log entries 5, 6). -/
def Obligations.NoStepStops : Prop :=
  (∀ s : State, ∃ t, step s = .next t) ∧ ∀ (i : Instr) (s : State), ∃ t, exec i s = .next t

/-- The invariant is kept by every step: handle, rate and mode agree (10_state.md R23), the decoder is at rest (R24),
the operation in progress fits the mode (log entry 5), the mark and the reasons agree (log entry 6). -/
def Obligations.StepKeepsTheInvariant : Prop :=
  ∀ s t : State, s.Inv → step s = .next t → t.Inv

/-- The invariant holds after reset (10_state.md R21, R23, R24). -/
def Obligations.ResetMeetsTheInvariant : Prop := State.reset.Inv

/-! ### Steps, reset, callers -/

/-- When the next input decodes to an instruction, the step is that instruction on the state with the input taken; a
frame's arrival does not wait for an operation in progress (20_memory.md R64, 44_link_session.md R201; log entry 8). Bytes
that arrive and are no frame of their kind join the RX stream, and nothing else changes (20_memory.md R51). -/
def Obligations.StepRunsTheDecodedInstruction : Prop :=
  (∀ (s : State) (e : Encoded) (rest : List Input) (i : Instr),
    s.pending = none → s.inputs = .encoded e :: rest → decode s.params e = .instr i →
      step s = exec i { s with inputs := rest }) ∧
  (∀ (s : State) (k : FrameKind) (bs : List Byte) (rest : List Input) (i : Instr),
    s.inputs = .encoded (.wire k bs) :: rest → decode s.params (.wire k bs) = .instr i →
      step s = exec i { s with inputs := rest }) ∧
  (∀ (s : State) (k : FrameKind) (bs : List Byte) (rest : List Input),
    s.inputs = .encoded (.wire k bs) :: rest →
    (decode s.params (.wire k bs) = .badLength ∨ ∃ r, decode s.params (.wire k bs) = .badFrame r) →
      step s = .next { s with
        inputs := rest, env := { s.env with rx := s.env.rx ++ bs.map RxItem.byte } }) ∧
  ∀ (s : State) (nbits w : Nat) (e : Encoded) (i : Instr),
    encodedOfTableWord nbits w = some e → decode s.params e = .instr i →
      step (s.withFetchWord nbits w) = exec i { s with pending := none }

/-- H waits: with an operation in progress the step looks for its answer, the host's next request stays where it is, and
the operation goes on waiting without a response or ends with one; with nothing to do the block waits unchanged
(10_state.md R20, 60_exceptions.md R234, 70_reset_and_hazards.md R261; log entries 5, 8). -/
def Obligations.HostWaitsForTheResponse : Prop :=
  (∀ (s : State) (op : Pending), s.pending = some op → onlyHostWaits s.inputs = true →
    step s = .next (resume op s) ∧ (resume op s).inputs = s.inputs ∧
    (((resume op s).pending = some op ∧ (resume op s).respTrace = s.respTrace) ∨
      ((resume op s).pending = none ∧ ∃ r, (resume op s).respTrace = s.respTrace ++ [r]))) ∧
  ∀ s : State, s.pending = none → s.inputs = [] → step s = .next s

/-- A request while another operation is in progress, and a request of a second host agent, set the mark with no other
effect (60_exceptions.md R233, row ConcurrentCaller). The record of reasons and the form of the request are the model's
(log entries 6, 7). That the reason is ConcurrentCaller also for OPEN while open and for a reserved word is the model's
choice (log entry 24, DESIGN CHOICE). -/
def Obligations.ConcurrentCallersAreRefused : Prop :=
  (∀ (i : Instr) (s : State) (op : Pending), Instr.isHostOperation i = true → s.pending = some op →
    exec i s = .next { s with refused := true, refusals := s.refusals ++ [.concurrentCaller] }) ∧
  ∀ (s : State) (e : Encoded) (rest : List Input), s.inputs = .intruder e :: rest →
    step s = .next { s with
      inputs := rest, refused := true, refusals := s.refusals ++ [.concurrentCaller] }

/-- The state at the start of a run, and what a reset in a run does: the reset values, the mark and the histories of the
run kept (70_reset_and_hazards.md R260), no primitive issued (R261). That E's RX stream stays (log entry 10, DEDUCED) and
that an operation in progress is dropped without a response (log entry 23, DESIGN CHOICE) are the model's. -/
def Obligations.ResetSetsTheResetValues : Prop :=
  (State.reset.sess = .closed ∧ State.reset.handle = none ∧ State.reset.baud = none ∧ State.reset.decState = .idle ∧
    State.reset.seekIdx = 0#1 ∧ State.reset.rxBuf = ⟨none, none, none, none, none, none⟩ ∧
    State.reset.txBuf = ⟨none, none, none, none, none, none, none⟩ ∧ State.reset.refused = false ∧
    State.reset.txTrace = [] ∧ State.reset.logTrace = []) ∧
  ∀ (s : State) (rest : List Input), s.inputs = .reset :: rest →
    step s = .next { s with
      inputs := rest, sess := .closed, handle := none, baud := none, decState := .idle, seekIdx := 0#1
      rxBuf := ⟨none, none, none, none, none, none⟩, txBuf := ⟨none, none, none, none, none, none, none⟩
      pending := none }

/-! ### The environment -/

/-- The queue oracle: with bytes `q` waiting and none to come, RxByte takes the first or times out, RxBlock takes `n` or
answers Short with what is there, and a write is accepted whole (20_memory.md R52; log entry 4). -/
def Obligations.QueueOracleAnswers : Prop :=
  (∀ (s : State) (q : List Byte), s.env.quiet = true → s.env.rx = q.map RxItem.byte →
    (q = [] → s.rxByte.1 = .timeout ∧ s.rxByte.2.env = s.env) ∧
    (∀ b q', q = b :: q' → s.rxByte.1 = .byte b ∧ s.rxByte.2.env.rx = q'.map RxItem.byte) ∧
    (4 ≤ q.length → s.rxBlock.1 = .bytes (q.take 4) ∧ s.rxBlock.2.env.rx = (q.drop 4).map RxItem.byte) ∧
    (q.length < 4 → s.rxBlock.1 = .short q ∧ s.rxBlock.2.env.rx = [])) ∧
  ∀ e : Env, e.quiet = true → e.writes = [] → e.takeWrite = (.done 7, e)

/-- E is not constrained: every answer of each read is given by some E (20_memory.md R51). -/
def Obligations.EveryReadAnswerIsPossible : Prop :=
  ∀ s : State,
    (∀ a : ByteAnswer, ∃ e, (s.setEnv e).rxByte.1 = a) ∧
    (∀ bs : List Byte, bs.length = 4 → ∃ e, (s.setEnv e).rxBlock.1 = .bytes bs) ∧
    (∀ bs : List Byte, bs.length < 4 → ∃ e, (s.setEnv e).rxBlock.1 = .short bs) ∧
    ∀ bs : List Byte, s.rxBlock.1 = .bytes bs → bs.length = 4
end

