-- ==== Sys2Proof/Laws/Operands.lean ====
section
/-! SUPPORT. Laws/Operands.lean: the small lemmas of the operand forms: byte order, sign, fields of a request word. -/

namespace Sys2Proof.Machine

theorem fromLe16_toNat (lo hi : Byte) : (fromLe16 lo hi).toNat = hi.toNat * 256 + lo.toNat := by
  unfold fromLe16
  rw [BitVec.toNat_append, ← Nat.shiftLeft_add_eq_or_of_lt lo.isLt]
  simp [Nat.shiftLeft_eq]

theorem loByte_toNat (w : Word16) : (loByte w).toNat = w.toNat % 256 := by simp [loByte]

theorem hiByte_toNat (w : Word16) : (hiByte w).toNat = w.toNat / 256 := by
  have := w.isLt
  simp [hiByte, Nat.shiftRight_eq_div_pow]
  omega

@[simp] theorem loByte_fromLe16 (lo hi : Byte) : loByte (fromLe16 lo hi) = lo := by
  apply BitVec.eq_of_toNat_eq
  have := lo.isLt
  rw [loByte_toNat, fromLe16_toNat]
  omega

@[simp] theorem hiByte_fromLe16 (lo hi : Byte) : hiByte (fromLe16 lo hi) = hi := by
  apply BitVec.eq_of_toNat_eq
  have := lo.isLt
  rw [hiByte_toNat, fromLe16_toNat]
  omega

@[simp] theorem fromLe16_bytes (w : Word16) : fromLe16 (loByte w) (hiByte w) = w := by
  apply BitVec.eq_of_toNat_eq
  rw [fromLe16_toNat, loByte_toNat, hiByte_toNat]
  omega

@[simp] theorem word16_int16 (w : Word16) : word16 (int16 w) = w := by simp [word16, int16]

theorem angleInRange_iff (a : Int) : angleInRange a = true ↔ -32768 ≤ a ∧ a ≤ 32767 := by simp [angleInRange]

theorem int16_word16 {a : Int} (h1 : -32768 ≤ a) (h2 : a ≤ 32767) : int16 (word16 a) = a := by
  simp [int16, word16, BitVec.toInt_ofInt, Int.bmod]
  omega

@[simp] theorem angleInRange_int16 (w : Word16) : angleInRange (int16 w) = true := by
  have h1 := w.toInt_lt
  have h2 := w.le_toInt
  rw [angleInRange_iff, int16]
  omega

theorem magicWire_zero (p : Params) : magicWire p 0#1 = loByte p.magic := rfl

theorem magicWire_one (p : Params) : magicWire p 1#1 = hiByte p.magic := rfl

/-- The four fields of a request word make it up. -/
theorem sendWord_toNat (src dst : Nibble) (angle : Int) : (sendWord src dst angle).toNat =
    (word16 angle).toNat * 65536 + dst.toNat * 4096 + src.toNat * 256 + 3 := by
  have h1 := src.isLt
  have h2 := dst.isLt
  unfold sendWord
  rw [BitVec.toNat_append, BitVec.toNat_append, BitVec.toNat_append, ← Nat.shiftLeft_add_eq_or_of_lt (by decide),
    ← Nat.shiftLeft_add_eq_or_of_lt h1, ← Nat.shiftLeft_add_eq_or_of_lt h2]
  simp [Nat.shiftLeft_eq]
  omega

theorem reqOp_toNat (w : Word32) : (reqOp w).toNat = w.toNat % 256 := by simp [reqOp]

theorem reqSrc_toNat (w : Word32) : (reqSrc w).toNat = w.toNat / 256 % 16 := by
  simp [reqSrc, Nat.shiftRight_eq_div_pow]

theorem reqDst_toNat (w : Word32) : (reqDst w).toNat = w.toNat / 4096 % 16 := by
  simp [reqDst, Nat.shiftRight_eq_div_pow]

theorem reqAngle_toNat (w : Word32) : (reqAngle w).toNat = w.toNat / 65536 := by
  have := w.isLt
  simp [reqAngle, Nat.shiftRight_eq_div_pow]
  omega

theorem reqReserved_toNat (w : Word32) : (reqReserved w).toNat = w.toNat / 256 := by
  have := w.isLt
  simp [reqReserved, Nat.shiftRight_eq_div_pow]
  omega

end Sys2Proof.Machine
end

