-- ==== Sys2Proof/Laws/PerInstr.lean ====
section
/-! SUPPORT. Laws/PerInstr.lean: the family of statements made per instruction: the encoded form of an instruction has
the length that opcode_table.json and 30_encoding.md R87 give its row. -/

namespace Sys2Proof

/-- The bits of an instruction's row in opcode_table.json (30_encoding.md R87): 32 of a request word, 56 of a command
frame, 48 of a status frame. -/
def Laws.SizedEncoding.rowBits : Instr → Nat
  | .openLink _ _ => 32
  | .closeLink => 32
  | .sendCommand _ _ _ => 32
  | .pollStatus => 32
  | .commandFrame _ _ _ _ => 56
  | .statusFrame _ _ _ _ => 48

/-- An encoding has the bits of its row. -/
def Laws.SizedEncoding.Statement (i : Instr) : Prop :=
  ∀ p : Params, (encode p i).nbits = Laws.SizedEncoding.rowBits i

theorem Laws.SizedEncoding.openLink (path : Path) (baud : Word32) :
    Laws.SizedEncoding.Statement (.openLink path baud) := fun _ => rfl

theorem Laws.SizedEncoding.closeLink : Laws.SizedEncoding.Statement .closeLink := fun _ => rfl

theorem Laws.SizedEncoding.sendCommand (src dst : Nibble) (angle : Int) :
    Laws.SizedEncoding.Statement (.sendCommand src dst angle) := fun _ => rfl

theorem Laws.SizedEncoding.pollStatus : Laws.SizedEncoding.Statement .pollStatus := fun _ => rfl

theorem Laws.SizedEncoding.commandFrame (src dst : Nibble) (angle : Int) (ck : Word16) :
    Laws.SizedEncoding.Statement (.commandFrame src dst angle ck) := fun _ => rfl

theorem Laws.SizedEncoding.statusFrame (src dst : Nibble) (status : Byte) (ck : Word16) :
    Laws.SizedEncoding.Statement (.statusFrame src dst status ck) := fun _ => rfl

end Sys2Proof
end

