-- ==== Sys2Proof/Laws/Step.lean ====
section
/-! SUPPORT. Laws/Step.lean: what the next input has the machine do, input by input. -/

namespace Sys2Proof.Machine

/-- With an operation in progress and nothing arriving, the operation looks for its answer. -/
theorem fetch_busy {s : State} {op : Pending} (hp : s.pending = some op) (hi : onlyHostWaits s.inputs = true) :
    fetch s = .resume op := by
  unfold fetch
  split <;> simp_all [onlyHostWaits]
  rename_i e _ _
  cases e <;> simp_all [Encoded.waits]

/-- With nothing in progress and nothing to come, the block waits. -/
theorem fetch_nothing {s : State} (hp : s.pending = none) (hi : s.inputs = []) : fetch s = .wait := by
  simp [fetch, hp, hi]

/-- A request is decoded when no operation is in progress. -/
theorem fetch_request {s : State} {w : Word32} {path : Path} {baud : Word32} {rest : List Input}
    (hp : s.pending = none) (hi : s.inputs = .encoded (.request w path baud) :: rest) :
    fetch s = fetchedOf [] (decode s.params (.request w path baud)) := by
  simp [fetch, hp, hi, Encoded.waits, Encoded.wireBytes]

/-- Bytes on the wire are looked at whatever is in progress. -/
theorem fetch_wire {s : State} {k : FrameKind} {bs : List Byte} {rest : List Input}
    (hi : s.inputs = .encoded (.wire k bs) :: rest) : fetch s = fetchedOf bs (decode s.params (.wire k bs)) := by
  simp [fetch, hi, Encoded.waits, Encoded.wireBytes]

theorem fetch_intruder {s : State} {e : Encoded} {rest : List Input} (hi : s.inputs = .intruder e :: rest) :
    fetch s = .refuse .concurrentCaller := by simp [fetch, hi]

theorem fetch_reset {s : State} {rest : List Input} (hi : s.inputs = .reset :: rest) : fetch s = .reset := by
  simp [fetch, hi]

end Sys2Proof.Machine
end

