-- ==== Sys2Proof/Machine/Asm.lean ====
section
/-! DEFINITION. Machine/Asm.lean: the written form of host operations and of environment lines (30_encoding.md R84,
R85). It is no operation of the block: a line stands for a request, or sets the queue oracle of a test program. -/

namespace Sys2Proof.Machine

/-- A lexical unit of a line. -/
inductive AsmToken where
  | word (cs : List Char)
  | text (cs : List Char)
  | comma
  | lbracket
  | rbracket
  deriving DecidableEq, Repr

/-- Where the scanner stands; the characters of a unit are held last first. -/
inductive LexMode where
  | blank
  | word (rev : List Char)
  | text (rev : List Char)
  | comment
  deriving DecidableEq, Repr

/-- An environment line (30_encoding.md R85). -/
inductive EnvLine where
  | openOk
  | openFail
  | rx (bytes : List Byte)
  deriving DecidableEq, Repr

/-- What a line is: empty, a request, an environment line, or an assembly error. -/
inductive AsmLine where
  | empty
  | request (e : Encoded)
  | env (l : EnvLine)
  | error
  deriving DecidableEq, Repr

/-- The double quote. -/
def quoteChar : Char := Char.ofNat 34

/-- A character outside a word and a path. Only a space is blank: DESIGN CHOICE (log entry 25). -/
def lexBlank (ts : List AsmToken) (c : Char) : List AsmToken × LexMode :=
  if c = ' ' then (ts, .blank)
  else if c = ';' then (ts, .comment)
  else if c = ',' then (.comma :: ts, .blank)
  else if c = '[' then (.lbracket :: ts, .blank)
  else if c = ']' then (.rbracket :: ts, .blank)
  else if c = quoteChar then (ts, .text [])
  else (ts, .word [c])

/-- A character that ends a word. -/
def endsWord (c : Char) : Bool := c = ' ' || c = ';' || c = ',' || c = '[' || c = ']' || c = quoteChar

/-- One character; `;` starts a comment (30_encoding.md R84). Units are held last first. Inside the quotes of a path a `;`
is a character of the path, and a path has no escapes: DESIGN CHOICE (log entry 25). -/
def lexChar (st : List AsmToken × LexMode) (c : Char) : List AsmToken × LexMode :=
  match st.2 with
  | .comment => st
  | .text rev => if c = quoteChar then (.text rev.reverse :: st.1, .blank) else (st.1, .text (c :: rev))
  | .word rev => if endsWord c then lexBlank (.word rev.reverse :: st.1) c else (st.1, .word (c :: rev))
  | .blank => lexBlank st.1 c

/-- The units of a line, unless a path is left open: DESIGN CHOICE (log entry 25). -/
def lexLine (line : List Char) : Option (List AsmToken) :=
  match line.foldl lexChar ([], .blank) with
  | (ts, .blank) => some ts.reverse
  | (ts, .comment) => some ts.reverse
  | (ts, .word rev) => some (.word rev.reverse :: ts).reverse
  | (_, .text _) => none

/-- The value of a digit, decimal or hexadecimal, of either case: DESIGN CHOICE (log entry 25). -/
def digitValue (base : Nat) (c : Char) : Option Nat :=
  let n := c.toNat
  let v := if 48 ≤ n ∧ n ≤ 57 then n - 48 else if 65 ≤ n ∧ n ≤ 70 then n - 55 else if 97 ≤ n ∧ n ≤ 102 then n - 87
    else 16
  if v < base then some v else none

/-- The number a non-empty run of digits writes. -/
def digitsValue (base : Nat) : List Char → Option Nat
  | [] => none
  | c :: cs => (c :: cs).foldl (fun acc d => acc.bind fun a => (digitValue base d).map fun v => a * base + v) (some 0)

/-- A decimal or `0x` hexadecimal natural (30_encoding.md R84). -/
def naturalOf : List Char → Option Nat
  | '0' :: 'x' :: cs => digitsValue 16 cs
  | cs => digitsValue 10 cs

/-- A natural below a bound; out of range is an assembly error (30_encoding.md R84). -/
def boundedOf (bound : Nat) (cs : List Char) : Option Nat :=
  (naturalOf cs).bind fun n => if n < bound then some n else none

/-- An angle in range; out of range is an assembly error (30_encoding.md R84). -/
def rangedAngle (a : Int) : Option Int := if angleInRange a then some a else none

/-- An angle: decimal, optionally signed, or the hexadecimal 16-bit pattern (30_encoding.md R84). A sign is one character
before the digits, `+` or `-`: DESIGN CHOICE (log entry 25). -/
def angleOf : List Char → Option Int
  | '0' :: 'x' :: cs => (digitsValue 16 cs).bind fun n => if n < 65536 then some (int16 (BitVec.ofNat 16 n)) else none
  | '-' :: cs => (digitsValue 10 cs).bind fun n => rangedAngle (-(n : Int))
  | '+' :: cs => (digitsValue 10 cs).bind fun n => rangedAngle n
  | cs => (digitsValue 10 cs).bind fun n => rangedAngle n

/-- The bytes of a path (log entry 14). -/
def pathOf (cs : List Char) : Path := cs.map fun c => BitVec.ofNat 8 c.toNat

/-- The hexadecimal bytes of an `env rx` line, up to the closing bracket (30_encoding.md R85). They stand without `0x`, and
there may be none: DESIGN CHOICE (log entry 25). -/
def envBytes : List AsmToken → Option (List Byte)
  | [.rbracket] => some []
  | .word cs :: ts =>
    (digitsValue 16 cs).bind fun n =>
      if n < 256 then (envBytes ts).map fun bs => BitVec.ofNat 8 n :: bs else none
  | _ => none

/-- A line from an optional request. -/
def requestLine : Option Encoded → AsmLine
  | some e => .request e
  | none => .error

/-- `send <src>, <dst>, <angle>` (30_encoding.md R84). -/
def sendLine (p : Params) (src dst angle : List Char) : AsmLine :=
  requestLine <| (boundedOf 16 src).bind fun s => (boundedOf 16 dst).bind fun d => (angleOf angle).map fun a =>
    encode p (.sendCommand (BitVec.ofNat 4 s) (BitVec.ofNat 4 d) a)

/-- `open "<path>", <baud>` (30_encoding.md R84). -/
def openLine (p : Params) (path baud : List Char) : AsmLine :=
  requestLine <| (boundedOf (2 ^ 32) baud).map fun n => encode p (.openLink (pathOf path) (BitVec.ofNat 32 n))

/-- A line of units; there are no pseudo-instructions (30_encoding.md R86). A line of no written form is an error:
DESIGN CHOICE (log entry 25). -/
def assembleTokens (p : Params) : List AsmToken → AsmLine
  | [] => .empty
  | [.word ['o', 'p', 'e', 'n'], .text path, .comma, .word baud] => openLine p path baud
  | [.word ['c', 'l', 'o', 's', 'e']] => .request (encode p .closeLink)
  | [.word ['s', 'e', 'n', 'd'], .word src, .comma, .word dst, .comma, .word angle] => sendLine p src dst angle
  | [.word ['p', 'o', 'l', 'l']] => .request (encode p .pollStatus)
  | [.word ['e', 'n', 'v'], .word ['o', 'p', 'e', 'n'], .word ['o', 'k']] => .env .openOk
  | [.word ['e', 'n', 'v'], .word ['o', 'p', 'e', 'n'], .word ['f', 'a', 'i', 'l']] => .env .openFail
  | .word ['e', 'n', 'v'] :: .word ['r', 'x'] :: .lbracket :: ts =>
    match envBytes ts with
    | some bs => .env (.rx bs)
    | none => .error
  | _ => .error

/-- One line of a program (30_encoding.md R84, R85). -/
def assemble (p : Params) (line : List Char) : AsmLine :=
  match lexLine line with
  | some ts => assembleTokens p ts
  | none => .error

/-- What an environment line sets: the answer of the next LinkOpen, or bytes behind those on RX (30_encoding.md R85);
a successful open answers the handle `h`. Two `env open` lines before one OPEN queue up, and the earlier one answers it:
DESIGN CHOICE (log entry 22). -/
def State.envLine (s : State) (h : LinkHandle) : EnvLine → State
  | .openOk => s.setEnv { s.env with opens := s.env.opens ++ [.ok h] }
  | .openFail => s.setEnv { s.env with opens := s.env.opens ++ [.fail] }
  | .rx bs => s.deliver bs

end Sys2Proof.Machine
end

