-- ==== Sys2Proof/Tests/Slice0.lean ====
section
/-! SUPPORT. Tests/Slice0.lean: tests whose expected values come from 95_test_vectors.md (the vector is named at each),
and for every statement with hypotheses a witness that meets them. -/

namespace Sys2Proof.Tests

open Sys2Proof Sys2Proof.Machine

/-! ### Helpers -/

/-- The parameters of the vectors with a seek timeout logged (SES-18). -/
def loggingParams : Params := { vectorParams with logSeekTimeout := true }

/-- The parameters of the vectors with `src` in the high nibble (HDR-6, HDR-8). -/
def srcHighParams : Params := { vectorParams with hdrSrcLow := false }

/-- After reset, under the parameters of the vectors and the queue oracle, with an empty RX queue. -/
def closedState : State := { State.reset with params := vectorParams, env := ⟨[], [], [], [], true, 0⟩ }

/-- As `closedState`, in the session mode POWERLESS. -/
def powerlessState : State := { closedState with sess := .powerless }

/-- As `closedState`, with a link held at 115200 and `rx` waiting. -/
def openState (rx : List Byte) : State :=
  { closedState with
    sess := .opened, handle := some ⟨1⟩, baud := some 115200#32, env := ⟨rx.map RxItem.byte, [], [], [], true, 0⟩ }

/-- The state after an instruction. -/
def after (i : Instr) (s : State) : State :=
  match exec i s with
  | .next t => t
  | .fault _ => s
  | .refused _ => s

/-- The state after a step. -/
def stepped (s : State) : State :=
  match step s with
  | .next t => t
  | .fault _ => s
  | .refused _ => s

/-- `s` with one request to come. -/
def asked (w : Word32) (s : State) : State := { s with inputs := [.encoded (.request w [] 115200#32)] }

/-- ENC-9. -/
def frameA : Bytes6 Byte := ⟨0xFE#8, 0xCA#8, 0x21#8, 0x00#8, 0xF0#8, 0xE1#8⟩

/-! ### WellFormed: each check refuses -/

theorem test_wf_angle_low : (Instr.sendCommand 0 1 (-32769)).wellFormed vectorParams = false := by decide
theorem test_wf_angle_high : (Instr.sendCommand 0 1 32768).wellFormed vectorParams = false := by decide
theorem test_wf_command_angle : (Instr.commandFrame 0 1 32768 0x8C87#16).wellFormed vectorParams = false := by
  decide +kernel
theorem test_wf_command_checksum : (Instr.commandFrame 0 1 4660 0xE62C#16).wellFormed vectorParams = false := by
  decide +kernel
theorem test_wf_status_checksum : (Instr.statusFrame 1 2 0#8 0xE1F1#16).wellFormed vectorParams = false := by
  decide +kernel
theorem test_wf_good : (Instr.commandFrame 0 1 4660 0xE62D#16).wellFormed vectorParams = true ∧
    (Instr.statusFrame 1 2 0#8 0xE1F0#16).wellFormed vectorParams = true := by decide +kernel

/-! ### Decoding of words and frames written out from 30_encoding.md R73, R74, R78 -/

/-- W-1. -/
theorem test_decode_open : decode vectorParams (.request 0x00000001#32 [0x2F#8] 115200#32) =
    .instr (.openLink [0x2F#8] 115200#32) := by decide
/-- W-2. -/
theorem test_decode_close : decode vectorParams (.request 0x00000002#32 [] 0) = .instr .closeLink := by decide
/-- W-12. -/
theorem test_decode_poll : decode vectorParams (.request 0x00000004#32 [] 0) = .instr .pollStatus := by decide
/-- W-5, W-6: the word written out by fields, angle, dst, src, op. -/
theorem test_decode_send :
    decode vectorParams (.request (0xFF9C#16 ++ (1#4 : Nibble) ++ (0#4 : Nibble) ++ (3#8 : Byte)) [] 0) =
      .instr (.sendCommand 0 1 (-100)) ∧
    decode vectorParams (.request 0x005A0F03#32 [] 0) = .instr (.sendCommand 15 0 90) := by decide
/-- W-9, W-10. -/
theorem test_decode_send_bounds :
    decode vectorParams (.request 0x7FFF0103#32 [] 0) = .instr (.sendCommand 1 0 32767) ∧
    decode vectorParams (.request 0x80000103#32 [] 0) = .instr (.sendCommand 1 0 (-32768)) := by decide
/-- ENC-5, ENC-7. -/
theorem test_decode_command :
    decode vectorParams (.wire .command [0xFE#8, 0xCA#8, 0x01#8, 0x00#8, 0x80#8, 0x87#8, 0x8C#8]) =
      .instr (.commandFrame 1 0 (-32768) 0x8C87#16) ∧
    decode vectorParams (.wire .command [0xFE#8, 0xCA#8, 0xF0#8, 0xA6#8, 0xFF#8, 0x27#8, 0xB4#8]) =
      .instr (.commandFrame 0 15 (-90) 0xB427#16) := by decide +kernel
/-- ENC-12, ENC-13. -/
theorem test_decode_status :
    decode vectorParams (.wire .status [0xFE#8, 0xCA#8, 0xFF#8, 0x7F#8, 0x88#8, 0x6E#8]) =
      .instr (.statusFrame 15 15 0x7F#8 0x6E88#16) ∧
    decode vectorParams (.wire .status [0xFE#8, 0xCA#8, 0x03#8, 0x01#8, 0xD1#8, 0xF1#8]) =
      .instr (.statusFrame 3 0 0x01#8 0xF1D1#16) := by decide +kernel
/-- SES-13 to SES-16, and the last reserved operation. -/
theorem test_decode_reserved :
    decode vectorParams (.request 0x00000005#32 [] 0) = .reserved .reservedOp ∧
    decode vectorParams (.request 0x00000000#32 [] 0) = .reserved .reservedOp ∧
    decode vectorParams (.request 0x000000FF#32 [] 0) = .reserved .reservedOp ∧
    decode vectorParams (.request 0x00000104#32 [] 0) = .reserved .reservedBits ∧
    decode vectorParams (.request 0x80000002#32 [] 0) = .reserved .reservedBits ∧
    decode vectorParams (.request 0x00000101#32 [] 0) = .reserved .reservedBits := by decide
/-- PAR-3, PAR-5, and wrong lengths. -/
theorem test_decode_bad_frames :
    decode vectorParams (.wire .command [0xFE#8, 0xCA#8, 0x10#8, 0x35#8, 0x12#8, 0x2D#8, 0xE6#8]) =
      .badFrame (.checksumMismatch 0xE62D#16 0xD51C#16) ∧
    decode vectorParams (.wire .status [0xFF#8, 0xCA#8, 0x21#8, 0x00#8, 0xF0#8, 0xE1#8]) =
      .badFrame .magicMismatch ∧
    decode vectorParams (.wire .status [0xFE#8, 0xCA#8, 0x21#8, 0x00#8, 0xF0#8]) = .badLength ∧
    decode vectorParams (.wire .command [0xFE#8, 0xCA#8, 0x21#8, 0x00#8, 0xF0#8, 0xE1#8]) = .badLength := by
  decide +kernel
/-- W-3, ENC-14: the encoder. -/
theorem test_encode :
    encode vectorParams (.sendCommand 0 1 4660) = .request 0x12341003#32 [] 0 ∧
    encode vectorParams (.statusFrame 14 15 0xCA#8 0x99F6#16) =
      .wire .status [0xFE#8, 0xCA#8, 0xFE#8, 0xCA#8, 0xF6#8, 0x99#8] := by decide
/-- The table's numbering: bit 0 is the least significant bit of the first byte. -/
theorem test_table_word :
    encodedOfTableWord 48 0xE1F00021CAFE = some (.wire .status (bytes6List frameA)) ∧
    encodedOfTableWord 56 0xE62D123410CAFE =
      some (.wire .command [0xFE#8, 0xCA#8, 0x10#8, 0x34#8, 0x12#8, 0x2D#8, 0xE6#8]) ∧
    decodeTableWord 32 0x12341003 = some (.sendCommand 0 1 4660) := ⟨rfl, rfl, by decide⟩

/-! ### The pure functions -/

/-- CK-2, CK-8, CK-11, CK-13, CK-14. -/
theorem test_checksum_one :
    checksum crcCcittFalse [0x00#8] = 0xE1F0#16 ∧ checksum crcCcittFalse [0xFF#8] = 0xFF00#16 ∧
    checksum crcCcittFalse [0x99#8] = 0xF360#16 ∧ checksum crcCcittFalse [0x07#8] = 0x9117#16 ∧
    checksum crcCcittFalse [0x34#8] = 0x9727#16 := by decide +kernel
/-- CK-22, CK-25, CK-27, CK-30. -/
theorem test_checksum_two :
    commandCk vectorParams (-1) = 0x0000#16 ∧ commandCk vectorParams 4660 = 0xE62D#16 ∧
    commandCk vectorParams (-32768) = 0x8C87#16 ∧ commandCk vectorParams 1000 = 0xB477#16 := by decide +kernel
/-- CK-41 to CK-44. -/
theorem test_checksum_variants :
    checksum crcXmodem [0x34#8, 0x12#8] = 0xFB22#16 ∧ checksum crcKermit [0x34#8, 0x12#8] = 0xE251#16 ∧
    checksum crcArc [0xFF#8] = 0x4040#16 ∧ checksum crcModbus [0x34#8, 0x12#8] = 0x7D97#16 ∧
    checksum crcModbus [0x00#8] = 0x40BF#16 := by decide +kernel
/-- VAL-2, VAL-4. -/
theorem test_validate :
    validate crcCcittFalse [0x01#8] 0xE1F0#16 = (false, 0xE1F0#16, 0xF1D1#16) ∧
    validate crcCcittFalse [0xFF#8, 0xFF#8] 0x0000#16 = (true, 0x0000#16, 0x0000#16) := by decide +kernel
/-- HDR-1, HDR-3, HDR-6. -/
theorem test_pack_header : packHeader vectorParams 1 2 = 0x21#8 ∧ packHeader vectorParams 15 0 = 0x0F#8 ∧
    packHeader srcHighParams 1 2 = 0x12#8 := by decide
/-- HDR-7, HDR-8. -/
theorem test_unpack_header : unpackHeader vectorParams 0xFE#8 = (14#4, 15#4) ∧
    unpackHeader srcHighParams 0xFE#8 = (15#4, 14#4) := by decide
/-- ENC-3, ENC-4. -/
theorem test_encode_command :
    bytes7List (encodeCommand vectorParams 2 1 (-1)) = [0xFE#8, 0xCA#8, 0x12#8, 0xFF#8, 0xFF#8, 0x00#8, 0x00#8] ∧
    bytes7List (encodeCommand vectorParams 1 0 32767) = [0xFE#8, 0xCA#8, 0x01#8, 0xFF#8, 0x7F#8, 0x88#8, 0x91#8] := by
  decide +kernel
/-- ENC-10, ENC-11. -/
theorem test_encode_status :
    bytes6List (encodeStatus vectorParams 1 2 0xFF#8) = [0xFE#8, 0xCA#8, 0x21#8, 0xFF#8, 0x00#8, 0xFF#8] ∧
    bytes6List (encodeStatus vectorParams 0 0 0x80#8) = [0xFE#8, 0xCA#8, 0x00#8, 0x80#8, 0x78#8, 0x70#8] := by
  decide +kernel
/-- PAR-6, PAR-7, PAR-8. -/
theorem test_parse_status :
    parseStatus vectorParams ⟨0xFE#8, 0xCB#8, 0x21#8, 0x00#8, 0xF0#8, 0xE1#8⟩ = .failed .magicMismatch ∧
    parseStatus vectorParams ⟨0xFE#8, 0xCA#8, 0x20#8, 0x00#8, 0xF0#8, 0xE1#8⟩ =
      .decoded ⟨0, 2, 0x00#8, 0xE1F0#16⟩ ∧
    parseStatus vectorParams ⟨0xFE#8, 0xCA#8, 0xFE#8, 0xCA#8, 0xF6#8, 0x99#8⟩ =
      .decoded ⟨14, 15, 0xCA#8, 0x99F6#16⟩ := by decide +kernel
/-- TMO-1, TMO-2, TMO-4, TMO-10, TMO-11. -/
theorem test_body_budget : tBodyMs 1 = 120005 ∧ tBodyMs 300 = 405 ∧ tBodyMs 2400 = 55 ∧ tBodyMs 60000 = 7 ∧
    tBodyMs 60001 = 5 := by decide
/-- 30_encoding.md R82, R83; 10_state.md R21. -/
theorem test_numbers : RespCode.number .notOpen = 6 ∧ RespCode.number .magicMismatch = 3 ∧
    LogEvent.number (.frameTimeout .body) = 2 ∧ LogPhase.number .body = 1 ∧ Sess.code .powerless = 2 ∧
    DecState.code .validate = 3 := by decide

/-! ### The decode cycle -/

/-- DEC-1. -/
theorem test_cycle_decoded : (decodeCycle (openState (bytes6List frameA))).1 = .decoded ⟨1, 2, 0x00#8, 0xE1F0#16⟩ ∧
    (decodeCycle (openState (bytes6List frameA))).2.env.rx = [] := by decide +kernel
/-- DEC-2, DEC-3. -/
theorem test_cycle_timeout : (decodeCycle (openState [])).1 = .failed .timeout ∧
    (decodeCycle (openState [0xFE#8])).1 = .failed .timeout ∧
    consumedBytes (decodeCycle (openState [0xFE#8])).2.issued = [0xFE#8] := by decide +kernel
/-- DEC-5: both bytes consumed, then the next cycle ends in `Short([])`. -/
theorem test_cycle_mismatch :
    (decodeCycle (openState [0xFE#8, 0x00#8, 0xFE#8, 0xCA#8])).1 = .failed .magicMismatch ∧
    (decodeCycle (openState [0xFE#8, 0x00#8, 0xFE#8, 0xCA#8])).2.env.rx = [.byte 0xFE#8, .byte 0xCA#8] ∧
    (decodeCycle (openState [0xFE#8, 0xCA#8])).1 = .failed .incompleteFrame := by decide +kernel
/-- DEC-6. -/
theorem test_cycle_short :
    (decodeCycle (openState [0xFE#8, 0xCA#8, 0x21#8, 0x00#8, 0xF0#8])).1 = .failed .incompleteFrame ∧
    (decodeCycle (openState [0xFE#8, 0xCA#8, 0x21#8, 0x00#8, 0xF0#8])).2.issued.getLast? =
      some (.rxBlock 4 (some 5) (.short [0x21#8, 0x00#8, 0xF0#8])) := by decide +kernel
/-- The buffer after DEC-1, at the offsets of 30_encoding.md R74. -/
theorem test_cycle_buffer : (decodeCycle (openState (bytes6List frameA))).2.rxBuf =
    ⟨some 0xFE#8, some 0xCA#8, some 0x21#8, some 0x00#8, some 0xF0#8, some 0xE1#8⟩ := by decide +kernel

/-! ### One step per instruction -/

/-- SES-1. -/
theorem test_open_ok :
    (after (.openLink [0x41#8] 115200#32) { closedState with env := ⟨[], [.ok ⟨7⟩], [], [], true, 0⟩ }).sess = .opened ∧
    (after (.openLink [0x41#8] 115200#32) { closedState with env := ⟨[], [.ok ⟨7⟩], [], [], true, 0⟩ }).baud =
      some 115200#32 := by decide
/-- SES-5: rate 0, no primitive. -/
theorem test_open_rate_zero : (after (.openLink [] 0#32) closedState).sess = .powerless ∧
    (after (.openLink [] 0#32) closedState).logTrace = [.cannotOpen] ∧
    (after (.openLink [] 0#32) closedState).issued = [] := by decide
/-- SES-10. -/
theorem test_close_open : (after .closeLink (openState [])).sess = .closed ∧
    (after .closeLink (openState [])).handle = none ∧
    (after .closeLink (openState [])).issued = [.linkClose (some ⟨1⟩)] := by decide
/-- SES-12. -/
theorem test_close_powerless : (after .closeLink powerlessState).sess = .closed ∧
    (after .closeLink powerlessState).issued = [] := by decide
/-- SES-9: a short write is answered OK. -/
theorem test_send_short :
    (after (.sendCommand 0 1 4660) { openState [] with env := ⟨[], [], [], [.done 3], true, 0⟩ }).txTrace =
      [⟨⟨0xFE#8, 0xCA#8, 0x10#8, 0x34#8, 0x12#8, 0x2D#8, 0xE6#8⟩, 3⟩] ∧
    (after (.sendCommand 0 1 4660) { openState [] with env := ⟨[], [], [], [.done 3], true, 0⟩ }).respTrace =
      [.sendCommand .ok] := by decide +kernel
/-- SES-3. -/
theorem test_send_not_open : (after (.sendCommand 0 1 4660) powerlessState).respTrace = [.sendCommand .notOpen] ∧
    (after (.sendCommand 0 1 4660) powerlessState).txTrace = [] := by decide
/-- DEC-10. -/
theorem test_poll_checksum :
    (after .pollStatus (openState [0xFE#8, 0xCA#8, 0x21#8, 0x01#8, 0xF0#8, 0xE1#8])).respTrace =
      [.pollStatus .checksumMismatch none] ∧
    (after .pollStatus (openState [0xFE#8, 0xCA#8, 0x21#8, 0x01#8, 0xF0#8, 0xE1#8])).logTrace =
      [.checksumMismatch 0xE1F0#16 0xF1D1#16] := by decide +kernel
/-- SES-18. -/
theorem test_poll_seek_log : (after .pollStatus { openState [] with params := loggingParams }).logTrace =
    [.frameTimeout .seek] ∧ (after .pollStatus (openState [])).logTrace = [] := by decide +kernel
/-- DEC-13: a command frame on RX is read as a status frame, and its last byte is left. -/
theorem test_command_frame_polled :
    (after .pollStatus (after (.commandFrame 0 1 4660 0xE62D#16) (openState []))).logTrace =
      [.checksumMismatch 0x2D12#16 0x9727#16] ∧
    (after .pollStatus (after (.commandFrame 0 1 4660 0xE62D#16) (openState []))).env.rx = [.byte 0xE6#8] := by
  decide +kernel
/-- SES-4: with no link held the arrived bytes stay. -/
theorem test_status_frame_waits :
    (after .pollStatus (after (.statusFrame 1 2 0x00#8 0xE1F0#16) powerlessState)).env.rx = frameItems frameA ∧
    (after .pollStatus (after (.statusFrame 1 2 0x00#8 0xE1F0#16) powerlessState)).respTrace =
      [.pollStatus .notOpen none] := by decide +kernel
/-- SES-7, SES-15: refusals. -/
theorem test_refusals : (stepped (asked 0x00000001#32 (openState []))).refusals = [.openWhileOpen] ∧
    (stepped (asked 0x00000104#32 closedState)).refusals = [.reservedBits] ∧
    (stepped (asked 0x00000104#32 closedState)).refused = true ∧
    (stepped (asked 0x00000104#32 closedState)).respTrace = [] := by decide
/-- The first step after reset runs the word that stands there. -/
theorem test_first_step : (stepped (State.reset.withFetchWord 32 0x00000001)).sess = .powerless ∧
    (stepped (State.reset.withFetchWord 32 0x12341003)).respTrace = [.sendCommand .notOpen] := by decide

/-! ### The written form (30_encoding.md R84, R85) -/

/-- W-7. -/
theorem test_asm_send : assemble vectorParams "send 0, 15, -90".toList = .request (.request 0xFFA6F003#32 [] 0) := by
  decide +kernel
/-- W-3 and a comment; out of range is an error. -/
theorem test_asm_send_hex :
    assemble vectorParams "send 0, 1, 0x1234 ; turn".toList = .request (.request 0x12341003#32 [] 0) ∧
    assemble vectorParams "send 16, 1, 0".toList = .error ∧
    assemble vectorParams "send 0, 1, 32768".toList = .error := by decide +kernel
/-- W-1, W-2, W-12. -/
theorem test_asm_lines :
    assemble vectorParams "open \"/d\", 9600".toList = .request (.request 0x00000001#32 [0x2F#8, 0x64#8] 9600#32) ∧
    assemble vectorParams "close".toList = .request (.request 0x00000002#32 [] 0) ∧
    assemble vectorParams "poll".toList = .request (.request 0x00000004#32 [] 0) ∧
    assemble vectorParams "env rx [FE CA 21]".toList = .env (.rx [0xFE#8, 0xCA#8, 0x21#8]) ∧
    assemble vectorParams "env open fail".toList = .env .openFail := by decide +kernel

/-! ### Witnesses: for each statement with hypotheses, a state and operands that meet them all, clause by clause -/

/-- A request to come, under a name: its state has no operation in progress. -/
def withInput (x : Input) (s : State) : State := { s with inputs := [x] }

/-- A link held, with E's answers listed. -/
def answering (closes : List CloseAnswer) (writes : List WriteAnswer) : State :=
  { openState [] with env := ⟨[], [], closes, writes, true, 0⟩ }

/-- No link held, with E's answers to LinkOpen listed. -/
def openAnswers (opens : List OpenAnswer) : State := { closedState with env := ⟨[], opens, [], [], true, 0⟩ }

/-- An operation in progress. -/
def busy (op : Pending) (s : State) : State := { s with pending := some op }

/-- Parameters with a checksum whose zero payload is zero. -/
def xmodemParams : Params := { vectorParams with crc := crcXmodem }

theorem witness_DecodeOfEncodeGivesTheInstruction :
    (Instr.openLink [] 0#32).wellFormed vectorParams = true ∧ Instr.closeLink.wellFormed vectorParams = true ∧
    (Instr.sendCommand 15 15 (-32768)).wellFormed vectorParams = true ∧
    (Instr.sendCommand 0 0 32767).wellFormed vectorParams = true ∧ Instr.pollStatus.wellFormed vectorParams = true ∧
    (Instr.commandFrame 1 0 (-32768) 0x8C87#16).wellFormed vectorParams = true ∧
    (Instr.commandFrame 1 0 32767 0x9188#16).wellFormed vectorParams = true ∧
    (Instr.statusFrame 1 2 0xFF#8 0xFF00#16).wellFormed vectorParams = true := by decide +kernel

theorem witness_EncodeOfDecodeGivesTheBits :
    decode vectorParams (.request 0x00000001#32 [0x2F#8] 1#32) = .instr (.openLink [0x2F#8] 1#32) ∧
    decode vectorParams (.request 0x7FFF0103#32 [] 0) = .instr (.sendCommand 1 0 32767) ∧
    decode vectorParams (.wire .status (bytes6List frameA)) = .instr (.statusFrame 1 2 0x00#8 0xE1F0#16) := by
  decide +kernel

theorem witness_DecodedIsWellFormed :
    decode vectorParams (.wire .command [0xFE#8, 0xCA#8, 0x01#8, 0x00#8, 0x80#8, 0x87#8, 0x8C#8]) =
      .instr (.commandFrame 1 0 (-32768) 0x8C87#16) := by decide +kernel

theorem witness_ReservedRequestsAreRefused :
    (∀ w : Word32, (withInput (.encoded (.request w [] 0)) closedState).pending = none ∧
      (withInput (.encoded (.request w [] 0)) closedState).inputs = .encoded (.request w [] 0) :: []) ∧
    decode vectorParams (.request 0x00000005#32 [] 0) = .reserved .reservedOp ∧
    decode vectorParams (.request 0x00000000#32 [] 0) = .reserved .reservedOp ∧
    decode vectorParams (.request 0xFFFFFF04#32 [] 0) = .reserved .reservedBits :=
  ⟨fun _ => ⟨rfl, rfl⟩, by decide, by decide, by decide⟩

theorem witness_SendWordFields : (0x00000003#32 : Word32).toNat % 256 = 3 ∧ (0xFFFFFF03#32 : Word32).toNat % 256 = 3 :=
  by decide

theorem witness_PayloadCorruptionIsDetected : vectorParams.crc.poly.getLsbD 0 = true ∧
    [0x00#8].length = [0x01#8].length ∧ [0x00#8] ≠ [0x01#8] ∧
    [0xFF#8, 0x7F#8].length = 2 ∧ [0xFF#8, 0x7F#8] ≠ [0x00#8, 0x80#8] ∧ (0x00#8 : Byte) ≠ 0xFF#8 ∧
    (-32768 : Int) ≤ 32767 ∧ (-32768 : Int) ≠ 32767 := by decide

theorem witness_ChecksumIsAffine : [0x34#8, 0x12#8].length = [0xFF#8, 0xFF#8].length ∧
    [0xFF#8, 0xFF#8].length = [0x00#8, 0x80#8].length := by decide

theorem witness_ZeroInitialisedVariants : xmodemParams.crc.init = 0 ∧ xmodemParams.crc.xorout = 0 := by decide

theorem witness_ParseOfEncodePerKind : (-32768 : Int) ≤ -32768 ∧ (-32768 : Int) ≤ 32767 ∧ (32767 : Int) ≤ 32767 := by
  decide

theorem witness_CommandFrameBitFlips : (-32768 : Int) ≤ 32767 ∧ (32767 : Int) ≤ 32767 ∧ 0 < 8 ∧ 7 < 8 ∧
    vectorParams.crc.poly.getLsbD 0 = true := by decide

theorem witness_StatusFrameBitFlips : 0 < 8 ∧ 7 < 8 ∧ vectorParams.crc.poly.getLsbD 0 = true := by decide

/-- DEC-1, PAR-5, PAR-6, with a byte behind the frame. -/
theorem witness_CycleAgreesWithParser :
    (openState (bytes6List frameA ++ [0x55#8])).env.rx = frameItems frameA ++ [.byte 0x55#8] ∧
    frameA.b0 = magicWire vectorParams 0#1 ∧ frameA.b1 = magicWire vectorParams 1#1 ∧
    (openState [0xFF#8, 0xCA#8, 0, 0, 0, 0]).env.rx = frameItems ⟨0xFF#8, 0xCA#8, 0, 0, 0, 0⟩ ++ [] ∧
    0xFF#8 ≠ magicWire vectorParams 0#1 ∧
    (openState [0xFE#8, 0xCB#8, 0, 0, 0, 0]).env.rx = frameItems ⟨0xFE#8, 0xCB#8, 0, 0, 0, 0⟩ ++ [] ∧
    0xFE#8 = magicWire vectorParams 0#1 ∧ 0xCB#8 ≠ magicWire vectorParams 1#1 := by decide

/-- Each outcome of the table of R158 occurs. -/
theorem witness_BytesConsumedPerOutcome :
    (decodeCycle (openState [0xFE#8])).1 = .failed .timeout ∧ (decodeCycle (openState [0x00#8])).1 = .failed .magicMismatch ∧
    (decodeCycle (openState [0xFE#8, 0xCA#8])).1 = .failed .incompleteFrame ∧
    (decodeCycle (openState [0xFE#8, 0xCA#8, 0x21#8, 0x01#8, 0xF0#8, 0xE1#8])).1 =
      .failed (.checksumMismatch 0xE1F0#16 0xF1D1#16) ∧
    (decodeCycle (openState (bytes6List frameA))).1 = .decoded ⟨1, 2, 0, 0xE1F0#16⟩ := by decide +kernel

/-- DEC-7. -/
theorem witness_FrameLostAfterPartialMagic :
    magicWire vectorParams 0#1 ≠ magicWire vectorParams 1#1 ∧ frameA.b0 = magicWire vectorParams 0#1 ∧
    (openState (0xFE#8 :: bytes6List frameA)).env.rx = .byte (magicWire vectorParams 0#1) :: (frameItems frameA ++ []) := by
  decide

/-- No body byte, and three. -/
theorem witness_SplitFrameIsLost :
    ({ openState [] with env := ⟨[.byte 0xFE#8, .byte 0xCA#8, .gap], [], [], [], true, 0⟩ } : State).env.rx =
      magicItems vectorParams ++ ([] : List Byte).map RxItem.byte ++ .gap :: [] ∧
    ({ openState [] with env := ⟨[.byte 0xFE#8, .byte 0xCA#8, .byte 0x21#8, .byte 0#8, .byte 0xF0#8, .gap, .byte 0xE1#8],
      [], [], [], true, 0⟩ } : State).env.rx =
      magicItems vectorParams ++ [0x21#8, 0x00#8, 0xF0#8].map RxItem.byte ++ .gap :: [.byte 0xE1#8] ∧
    [0x21#8, 0x00#8, 0xF0#8].length < 4 := by decide

/-- P5. -/
theorem witness_PerpetualMisalignment : vectorParams.magic = 0xCAFE#16 ∧ vectorParams.crc = crcCcittFalse ∧
    (openState [0xFE#8, 0xCA#8, 0xF6#8, 0x99#8, 0xFE#8, 0xCA#8, 0xFE#8, 0xCA#8, 0xF6#8, 0x99#8, 0xFE#8, 0xCA#8,
      0xFE#8]).env.rx = (List.replicate 2 (frameItems ⟨0xFE#8, 0xCA#8, 0xF6#8, 0x99#8, 0xFE#8, 0xCA#8⟩)).flatten ++
        [.byte 0xFE#8] ∧
    (openState []).pending = none ∧ (openState []).sess = .opened := by decide

theorem witness_ForeignTrafficIsReadAsStatus :
    (openState []).pending = none ∧ (openState []).sess = .opened ∧ (openState []).env.rx = [] := by decide

theorem witness_ArrivedStatusFrameIsPolled : (Instr.statusFrame 1 2 0x00#8 0xE1F0#16).wellFormed (openState []).params =
    true ∧ (openState []).pending = none ∧ (openState []).sess = .opened ∧ (openState []).env.rx = [] := by
  decide +kernel

/-- DEC-8 with one byte of garbage, and none. -/
theorem witness_ResynchronizesAfterGarbage :
    (∀ b ∈ [0x55#8], b ≠ magicWire vectorParams 0#1) ∧ (openState []).pending = none ∧
    (openState []).sess = .opened ∧
    (openState (0x55#8 :: bytes6List frameA)).env.rx =
      [0x55#8].map RxItem.byte ++ frameItems (encodeStatus vectorParams 1 2 0x00#8) ++ [] ∧
    (openState (bytes6List frameA)).env.rx =
      ([] : List Byte).map RxItem.byte ++ frameItems (encodeStatus vectorParams 1 2 0x00#8) ++ [] := by decide +kernel

theorem witness_BodyBudgetCoversTheFrame : 0 < 1 ∧ 60000 < 60001 ∧ (openState []).baud = some 115200#32 := by decide

theorem witness_PollWaitIsBounded : closedState.pending = none ∧ closedState.sess ≠ .opened ∧
    (openState []).pending = none ∧ (openState []).baud = some 115200#32 := by decide

/-- The four clauses, the last two at rates 1 and 2^32 - 1. -/
theorem witness_OpenResults :
    ((openState []).pending = none ∧ (openState []).sess = .opened) ∧
    (closedState.pending = none ∧ closedState.sess ≠ .opened ∧ powerlessState.sess ≠ .opened) ∧
    ((openAnswers [.ok ⟨1⟩]).pending = none ∧ (openAnswers [.ok ⟨1⟩]).sess ≠ .opened ∧ (1#32 : Word32) ≠ 0#32 ∧
      (openAnswers [.ok ⟨1⟩]).env.takeOpen = (.ok ⟨1⟩, (openAnswers []).env)) ∧
    ((openAnswers [.fail]).sess ≠ .opened ∧ (0xFFFFFFFF#32 : Word32) ≠ 0#32 ∧
      (openAnswers [.fail]).env.takeOpen = (.fail, (openAnswers []).env)) := by decide

theorem witness_CloseResults : (powerlessState.pending = none ∧ powerlessState.sess ≠ .opened) ∧
    ((openState []).pending = none ∧ (openState []).sess = .opened ∧
      (openState []).env.takeClose = (.done, (openState []).env)) := by decide

theorem witness_SendCommandResults : (closedState.pending = none ∧ closedState.sess ≠ .opened) ∧
    ((answering [] [.done 0]).pending = none ∧ (answering [] [.done 0]).sess = .opened ∧
      (answering [] [.done 0]).env.takeWrite = (.done 0, (openState []).env) ∧
      (openState []).env.takeWrite = (.done 7, (openState []).env)) := by decide

/-- With no link held; with one held, each outcome occurs (`witness_BytesConsumedPerOutcome`). -/
theorem witness_PollStatusResults : (closedState.pending = none ∧ closedState.sess ≠ .opened) ∧
    ((openState []).pending = none ∧ (openState []).sess = .opened ∧
      decodeCycle (openState []) = ((decodeCycle (openState [])).1, (decodeCycle (openState [])).2) ∧
      (decodeCycle (openState [])).1 = .failed .timeout) ∧
    (openState (bytes6List frameA)).pending = none ∧ (openState (bytes6List frameA)).sess = .opened := by decide +kernel

/-- Each clause with nothing to come, and the first with the host's next request waiting. -/
theorem witness_LateAnswerGivesTheSameResult :
    ((openAnswers [.notYet, .fail]).pending = none ∧ onlyHostWaits (openAnswers [.notYet, .fail]).inputs = true ∧
      onlyHostWaits (asked 4#32 (openAnswers [.notYet, .fail])).inputs = true ∧
      (openAnswers [.notYet, .fail]).sess ≠ .opened ∧ (1#32 : Word32) ≠ 0#32 ∧
      (openAnswers [.notYet, .fail]).env.opens = .notYet :: .fail :: []) ∧
    ((answering [.notYet, .done] []).pending = none ∧ onlyHostWaits (answering [.notYet, .done] []).inputs = true ∧
      (answering [.notYet, .done] []).sess = .opened ∧
      (answering [.notYet, .done] []).env.closes = .notYet :: .done :: []) ∧
    ((answering [] [.notYet, .notYet]).pending = none ∧ onlyHostWaits (answering [] [.notYet, .notYet]).inputs = true ∧
      (answering [] [.notYet, .notYet]).sess = .opened ∧
      (answering [] [.notYet, .notYet]).env.writes = .notYet :: .notYet :: []) := by decide

/-- Nothing accepted, and all. -/
theorem witness_ShortWritesAreSilent :
    (answering [] [.done 0]).pending = none ∧ (answering [] [.done 0]).sess = .opened ∧
    (answering [] [.done 0]).env.writes = .done 0 :: [] ∧ (answering [] [.done 7]).env.writes = .done 7 :: [] := by decide

theorem witness_OpenFrame : ∃ t, exec (.openLink [] 0#32) closedState = .next t := ⟨_, rfl⟩

theorem witness_CloseFrame : ∃ t, exec .closeLink (openState []) = .next t := ⟨_, rfl⟩

theorem witness_SendCommandFrame : ∃ t, exec (.sendCommand 0 1 4660) (openState []) = .next t := ⟨_, rfl⟩

/-- A decoder at rest, so that the last clause is met. -/
theorem witness_PollStatusFrame : (openState []).decoderAtRest ∧ ∃ t, exec .pollStatus (openState []) = .next t :=
  ⟨by decide, _, rfl⟩

theorem witness_WireFramesFrame :
    (Instr.isHostOperation (.commandFrame 0 1 0 0) = false ∧
      ∃ t, exec (.commandFrame 0 1 0 0) closedState = .next t) ∧
    (Instr.isHostOperation (.statusFrame 0 1 0 0) = false ∧
      ∃ t, exec (.statusFrame 0 1 0 0) closedState = .next t) := ⟨⟨rfl, _, rfl⟩, rfl, _, rfl⟩

theorem witness_DegradedModeIsSilent : closedState.pending = none ∧ closedState.sess ≠ .opened ∧
    powerlessState.pending = none ∧ powerlessState.sess ≠ .opened ∧
    ∀ i ∈ [Instr.sendCommand 0 1 100, Instr.pollStatus], (silentResponse i).isSome = true := by decide

/-- A poll; and each of the five ways a step changes the session. -/
theorem witness_OnlyOpenAndCloseChangeTheSession :
    (∃ t, exec .pollStatus (openState []) = .next t) ∧
    (∃ t, step (withInput .reset (openState [])) = .next t ∧ t.sess ≠ (withInput .reset (openState [])).sess) ∧
    (∃ t, step (asked 1#32 (openAnswers [.fail])) = .next t ∧ t.sess ≠ (asked 1#32 (openAnswers [.fail])).sess) ∧
    (∃ t, step (asked 2#32 (openState [])) = .next t ∧ t.sess ≠ (asked 2#32 (openState [])).sess) ∧
    (∃ t, step (busy (.linkOpen [] 1#32) (openAnswers [.ok ⟨1⟩])) = .next t ∧
      t.sess ≠ (busy (.linkOpen [] 1#32) (openAnswers [.ok ⟨1⟩])).sess) ∧
    (∃ t, step (busy .linkClose (openState [])) = .next t ∧ t.sess ≠ (busy .linkClose (openState [])).sess) :=
  ⟨⟨_, rfl⟩, ⟨_, rfl, by decide⟩, ⟨_, rfl, by decide⟩, ⟨_, rfl, by decide⟩, ⟨_, rfl, by decide⟩, ⟨_, rfl, by decide⟩⟩

theorem witness_ClosedAndPowerlessBehaveAlike : (closedState.sess = .closed ∧
    ∃ t, exec .closeLink closedState = .next t) ∧
    ((asked 4#32 closedState).sess = .closed ∧ ∃ t, step (asked 4#32 closedState) = .next t) :=
  ⟨⟨rfl, _, rfl⟩, rfl, _, rfl⟩

theorem witness_OldBufferContentsAreNotObservable : ∃ t, exec .pollStatus (openState (bytes6List frameA)) = .next t :=
  ⟨_, rfl⟩

theorem witness_HistoriesGrowAndAreNotRead : (∃ t, exec (.openLink [] 0#32) closedState = .next t) ∧
    ∃ t, step (asked 4#32 (openState [])) = .next t := ⟨⟨_, rfl⟩, _, rfl⟩

/-- The mark set before the step, and set by it. -/
theorem witness_RefusalMarkIsSticky :
    (∃ t, step (withInput .reset { closedState with refused := true }) = .next t) ∧
    ∃ t, step (asked 0#32 closedState) = .next t ∧ (asked 0#32 closedState).refused = false ∧ t.refused = true :=
  ⟨⟨_, rfl⟩, _, rfl, by decide, by decide⟩

/-- Each of the four reasons. -/
theorem witness_RefusalsHaveTheirCauses :
    (∃ t, step (asked 5#32 closedState) = .next t ∧ t.refusals = (asked 5#32 closedState).refusals ++ [.reservedOp]) ∧
    (∃ t, step (asked 0x104#32 closedState) = .next t ∧
      t.refusals = (asked 0x104#32 closedState).refusals ++ [.reservedBits]) ∧
    (∃ t, step (asked 1#32 (openState [])) = .next t ∧
      t.refusals = (asked 1#32 (openState [])).refusals ++ [.openWhileOpen]) ∧
    ∃ t, step (withInput (.intruder (.request 4#32 [] 0)) closedState) = .next t ∧
      t.refusals = (withInput (.intruder (.request 4#32 [] 0)) closedState).refusals ++ [.concurrentCaller] :=
  ⟨⟨_, rfl, by decide⟩, ⟨_, rfl, by decide⟩, ⟨_, rfl, by decide⟩, _, rfl, by decide⟩

theorem witness_NoStepWritesTheParameters : ∃ t, step (withInput .reset (openState [])) = .next t := ⟨_, rfl⟩

/-- A link held, and an operation in progress. -/
theorem witness_StepKeepsTheInvariant :
    ((asked 2#32 (openState [])).Inv ∧ ∃ t, step (asked 2#32 (openState [])) = .next t) ∧
    (busy (.linkOpen [] 1#32) (openAnswers [.fail])).Inv ∧
      ∃ t, step (busy (.linkOpen [] 1#32) (openAnswers [.fail])) = .next t :=
  ⟨⟨by decide, _, rfl⟩, by decide, _, rfl⟩

/-- A request, a frame while an operation is in progress, five bytes and a wrong magic, and a table word. -/
theorem witness_StepRunsTheDecodedInstruction :
    ((asked 4#32 (openState [])).pending = none ∧
      (asked 4#32 (openState [])).inputs = .encoded (.request 4#32 [] 115200#32) :: [] ∧
      decode vectorParams (.request 4#32 [] 115200#32) = .instr .pollStatus) ∧
    ((busy .linkClose (withInput (.encoded (.wire .status (bytes6List frameA))) (openState []))).inputs =
      .encoded (.wire .status (bytes6List frameA)) :: [] ∧
      decode vectorParams (.wire .status (bytes6List frameA)) = .instr (.statusFrame 1 2 0#8 0xE1F0#16)) ∧
    ((withInput (.encoded (.wire .status [1#8, 2#8, 3#8, 4#8, 5#8])) closedState).inputs =
      .encoded (.wire .status [1#8, 2#8, 3#8, 4#8, 5#8]) :: [] ∧
      decode vectorParams (.wire .status [1#8, 2#8, 3#8, 4#8, 5#8]) = .badLength ∧
      decode vectorParams (.wire .status [0xFF#8, 0xCA#8, 0x21#8, 0x00#8, 0xF0#8, 0xE1#8]) =
        .badFrame .magicMismatch) ∧
    (encodedOfTableWord 32 2 = some (.request 2#32 [] 0) ∧
      decode vectorParams (.request 2#32 [] 0) = .instr .closeLink) := by decide +kernel

/-- A request waiting, and none. -/
theorem witness_HostWaitsForTheResponse :
    ((busy .linkClose (asked 4#32 (openState []))).pending = some .linkClose ∧
      onlyHostWaits (busy .linkClose (asked 4#32 (openState []))).inputs = true ∧
      onlyHostWaits (busy .linkClose (openState [])).inputs = true) ∧
    (closedState.pending = none ∧ closedState.inputs = []) := by decide

theorem witness_ConcurrentCallersAreRefused :
    (Instr.isHostOperation (.openLink [] 0) = true ∧ Instr.isHostOperation .closeLink = true ∧
      Instr.isHostOperation (.sendCommand 0 1 0) = true ∧ Instr.isHostOperation .pollStatus = true ∧
      (busy .linkClose (openState [])).pending = some .linkClose) ∧
    (withInput (.intruder (.request 4#32 [] 0)) closedState).inputs = .intruder (.request 4#32 [] 0) :: [] := by decide

theorem witness_ResetSetsTheResetValues : (withInput .reset (openState [])).inputs = .reset :: [] := rfl

/-- No byte, one, three and four, and five waiting. -/
theorem witness_QueueOracleAnswers : (openState []).env.quiet = true ∧ (openState []).env.rx = ([] : List Byte).map .byte ∧
    (openState [1#8]).env.rx = [1#8].map .byte ∧ [1#8, 2#8, 3#8].length < 4 ∧ 4 ≤ [1#8, 2#8, 3#8, 4#8].length ∧
    (openState [1#8, 2#8, 3#8, 4#8, 5#8]).env.rx = [1#8, 2#8, 3#8, 4#8, 5#8].map .byte ∧
    (openState []).env.writes = [] := by decide

theorem witness_EveryReadAnswerIsPossible : [1#8, 2#8, 3#8, 4#8].length = 4 ∧ ([] : List Byte).length < 4 ∧
    [1#8, 2#8, 3#8].length < 4 ∧ (openState [1#8, 2#8, 3#8, 4#8]).rxBlock.1 = .bytes [1#8, 2#8, 3#8, 4#8] := by decide

end Sys2Proof.Tests
end

/-! Old buffer contents and histories are not observable (10_state.md R25, R27, R29). The two buffers and the two
histories are set apart as the `Unread` part of a state. Every operation is `Blind` to it: under another unread part it
gives the same state, with one effect, fixed beforehand, on the unread part it was given. Both obligations are readings
of `exec_runs_blind` and `step_runs_blind`. -/

namespace Sys2Proof.Machine

/-! ### The unread part of a state -/

/-- The fields whose old contents no operation reads. -/
structure Unread where
  rxBuf    : Bytes6 (Option Byte)
  txBuf    : Bytes7 (Option Byte)
  txTrace  : List TxRecord
  logTrace : List LogEvent

/-- The unread part of `s`. -/
def State.unread (s : State) : Unread := ⟨s.rxBuf, s.txBuf, s.txTrace, s.logTrace⟩

/-- `s` under another unread part. -/
def State.withUnread (s : State) (u : Unread) : State :=
  { s with rxBuf := u.rxBuf, txBuf := u.txBuf, txTrace := u.txTrace, logTrace := u.logTrace }

/-- The unread part with its buffers rewritten. -/
def Unread.mapBuffers (u : Unread) (rx : Bytes6 (Option Byte) → Bytes6 (Option Byte))
    (tx : Bytes7 (Option Byte) → Bytes7 (Option Byte)) : Unread :=
  { u with rxBuf := rx u.rxBuf, txBuf := tx u.txBuf }

@[simp] theorem State.withUnread_params (s : State) (u : Unread) : (s.withUnread u).params = s.params := rfl
@[simp] theorem State.withUnread_sess (s : State) (u : Unread) : (s.withUnread u).sess = s.sess := rfl

/-- What an operation does to the unread part: each buffer is rewritten, and each history grows. -/
structure UnreadEffect where
  rx     : Bytes6 (Option Byte) → Bytes6 (Option Byte)
  tx     : Bytes7 (Option Byte) → Bytes7 (Option Byte)
  sent   : List TxRecord
  logged : List LogEvent

/-- The unread part after the effect. -/
def UnreadEffect.apply (d : UnreadEffect) (u : Unread) : Unread :=
  ⟨d.rx u.rxBuf, d.tx u.txBuf, u.txTrace ++ d.sent, u.logTrace ++ d.logged⟩

/-- `f` run from `s` does not read the unread part: its effect there is the same whatever stands there, and so is the
rest of the state. It appends at most one entry to each history (10_state.md R29). -/
def Blind (f : State → State) (s : State) : Prop :=
  ∃ d : UnreadEffect, d.sent.length ≤ 1 ∧ d.logged.length ≤ 1 ∧
    ∀ u, f (s.withUnread u) = (f s).withUnread (d.apply u)

/-- Each history of `t` is that of `s` with at most one entry more. -/
def HistoriesGrow (s t : State) : Prop :=
  ∃ tx lg, t.txTrace = s.txTrace ++ tx ∧ tx.length ≤ 1 ∧ t.logTrace = s.logTrace ++ lg ∧ lg.length ≤ 1

/-- The effect is also the one that the run from `s` itself has. -/
theorem unread_of_effect {f : State → State} {s : State} {d : UnreadEffect}
    (h : ∀ u, f (s.withUnread u) = (f s).withUnread (d.apply u)) : (f s).unread = d.apply s.unread := by
  have hs : f s = (f s).withUnread (d.apply s.unread) := h s.unread
  exact congrArg State.unread hs

theorem Blind.historiesGrow {f : State → State} {s : State} (h : Blind f s) : HistoriesGrow s (f s) := by
  obtain ⟨d, hsent, hlogged, hd⟩ := h
  have hu := unread_of_effect hd
  exact ⟨d.sent, d.logged, congrArg Unread.txTrace hu, hsent, congrArg Unread.logTrace hu, hlogged⟩

/-! ### Building blind operations -/

theorem blind_of_mapBuffers {f : State → State} {s : State} (rx : Bytes6 (Option Byte) → Bytes6 (Option Byte))
    (tx : Bytes7 (Option Byte) → Bytes7 (Option Byte))
    (h : ∀ u, f (s.withUnread u) = (f s).withUnread (u.mapBuffers rx tx)) : Blind f s :=
  ⟨⟨rx, tx, [], []⟩, Nat.zero_le _, Nat.zero_le _, by simpa [UnreadEffect.apply, Unread.mapBuffers] using h⟩

theorem blind_of_untouched {f : State → State} {s : State} (h : ∀ u, f (s.withUnread u) = (f s).withUnread u) :
    Blind f s :=
  blind_of_mapBuffers id id h

/-- What runs after an update that writes only the buffers is as blind as it is from the updated state. -/
theorem Blind.after_mapBuffers {f g : State → State} {s : State} (rx : Bytes6 (Option Byte) → Bytes6 (Option Byte))
    (tx : Bytes7 (Option Byte) → Bytes7 (Option Byte)) (h : Blind f (g s))
    (hg : ∀ u, g (s.withUnread u) = (g s).withUnread (u.mapBuffers rx tx)) : Blind (fun s => f (g s)) s := by
  obtain ⟨d, hsent, hlogged, hd⟩ := h
  refine ⟨⟨d.rx ∘ rx, d.tx ∘ tx, d.sent, d.logged⟩, hsent, hlogged, fun u => ?_⟩
  calc f (g (s.withUnread u)) = f ((g s).withUnread (u.mapBuffers rx tx)) := by rw [hg]
    _ = (f (g s)).withUnread (d.apply (u.mapBuffers rx tx)) := hd _

theorem Blind.after {f g : State → State} {s : State} (h : Blind f (g s))
    (hg : ∀ u, g (s.withUnread u) = (g s).withUnread u) : Blind (fun s => f (g s)) s :=
  h.after_mapBuffers id id hg

/-- A blind operation followed by an update that leaves the unread part alone is blind. -/
theorem Blind.andThen {f g : State → State} {s : State} (h : Blind f s)
    (hg : ∀ t u, g (t.withUnread u) = (g t).withUnread u) : Blind (fun s => g (f s)) s := by
  obtain ⟨d, hsent, hlogged, hd⟩ := h
  exact ⟨d, hsent, hlogged, fun u => (congrArg g (hd u)).trans (hg _ _)⟩

/-- A function that agrees with a blind one, from `s` under every unread part, is blind. -/
theorem Blind.congr {f g : State → State} {s : State} (h : Blind f s)
    (hfg : ∀ u, g (s.withUnread u) = f (s.withUnread u)) : Blind g s := by
  obtain ⟨d, hsent, hlogged, hd⟩ := h
  have hs : g s = f s := hfg s.unread
  exact ⟨d, hsent, hlogged, fun u => by rw [hfg, hs, hd]⟩

theorem refuse_blind (r : RefusalReason) (s : State) : Blind (·.refuse r) s := blind_of_untouched fun _ => rfl

theorem respond_blind (r : Response) (s : State) : Blind (·.respond r) s := blind_of_untouched fun _ => rfl

theorem deliver_blind (bs : List Byte) (s : State) : Blind (·.deliver bs) s := blind_of_untouched fun _ => rfl

theorem finishClose_blind (s : State) : Blind State.finishClose s := blind_of_untouched fun _ => rfl

theorem addTx_blind (r : TxRecord) (s : State) : Blind (·.addTx r) s :=
  ⟨⟨id, id, [r], []⟩, le_rfl, Nat.zero_le _, fun u => by simp [UnreadEffect.apply, State.addTx, State.withUnread]⟩

theorem addLog_blind {es : List LogEvent} (hes : es.length ≤ 1) (s : State) : Blind (·.addLog es) s :=
  ⟨⟨id, id, [], es⟩, Nat.zero_le _, hes, fun u => by simp [UnreadEffect.apply, State.addLog, State.withUnread]⟩

theorem blockReset_blind (s : State) : Blind State.blockReset s :=
  blind_of_mapBuffers (fun _ => rxUnwritten) (fun _ => txUnwritten) fun _ => rfl

theorem openFailed_blind (s : State) : Blind State.openFailed s :=
  ((addLog_blind (es := [.cannotOpen]) le_rfl _).after (g := (·.setSession .powerless none none)) fun _ => rfl).andThen
    (g := (·.respond (.openLink .openFailure))) fun _ _ => rfl

theorem whenIdle_blind {run : State → State} {s : State} (h : Blind run s) : Blind (·.whenIdle run) s := by
  cases hp : s.pending with
  | none => exact h.congr fun u => whenIdle_idle (s := s.withUnread u) hp run
  | some op => exact (refuse_blind .concurrentCaller s).congr fun u => whenIdle_busy (s := s.withUnread u) hp run

/-! ### Waiting for E's answer: one equation per answer -/

section Await
variable {s : State} {e : Env} {path : Path} {rate : Word32} {bs : Bytes7 Byte}

theorem awaitLinkOpen_ok {k : LinkHandle} (h : s.env.takeOpen = (.ok k, e)) : awaitLinkOpen path rate s =
    (((s.setEnv e).setPending none).setSession .opened (some k) (some rate)).respond (.openLink .ok) := by
  simp [awaitLinkOpen, h]

theorem awaitLinkOpen_fail (h : s.env.takeOpen = (.fail, e)) :
    awaitLinkOpen path rate s = ((s.setEnv e).setPending none).openFailed := by
  simp [awaitLinkOpen, h]

theorem awaitLinkOpen_notYet (h : s.env.takeOpen = (.notYet, e)) :
    awaitLinkOpen path rate s = (s.setEnv e).setPending (some (.linkOpen path rate)) := by
  simp [awaitLinkOpen, h]

theorem awaitLinkClose_done (h : s.env.takeClose = (.done, e)) :
    awaitLinkClose s = ((s.setEnv e).setPending none).finishClose := by
  simp [awaitLinkClose, h]

theorem awaitLinkClose_notYet (h : s.env.takeClose = (.notYet, e)) :
    awaitLinkClose s = (s.setEnv e).setPending (some .linkClose) := by
  simp [awaitLinkClose, h]

theorem awaitTxWrite_done {k : Fin 8} (h : s.env.takeWrite = (.done k, e)) : awaitTxWrite bs s =
    (((s.setEnv e).setPending none).addTx ⟨bs, k⟩).respond (.sendCommand .ok) := by
  simp [awaitTxWrite, h]

theorem awaitTxWrite_notYet (h : s.env.takeWrite = (.notYet, e)) :
    awaitTxWrite bs s = (s.setEnv e).setPending (some (.txWrite bs)) := by
  simp [awaitTxWrite, h]

end Await

/-! ### The host operations -/

/-- E has answered, leaving `e`, and the operation in progress is now `op`. -/
def State.answered (e : Env) (op : Option Pending) (s : State) : State := (s.setEnv e).setPending op

theorem answered_blind (e : Env) (op : Option Pending) (s : State) : Blind (State.answered e op) s :=
  blind_of_untouched fun _ => rfl

theorem Blind.afterAnswer {f : State → State} {s : State} {e : Env} (h : Blind f (s.answered e none)) :
    Blind (fun s => f (s.answered e none)) s :=
  h.after fun _ => rfl

theorem awaitLinkOpen_blind (path : Path) (rate : Word32) (s : State) : Blind (awaitLinkOpen path rate) s := by
  rcases h : s.env.takeOpen with ⟨a, e⟩
  cases a with
  | ok k =>
    exact ((answered_blind e none s).andThen
      (g := fun s => (s.setSession .opened (some k) (some rate)).respond (.openLink .ok)) fun _ _ => rfl).congr
      fun u => awaitLinkOpen_ok (s := s.withUnread u) h
  | fail => exact (openFailed_blind _).afterAnswer.congr fun u => awaitLinkOpen_fail (s := s.withUnread u) h
  | notYet =>
    exact (answered_blind e (some (.linkOpen path rate)) s).congr fun u => awaitLinkOpen_notYet (s := s.withUnread u) h

theorem awaitLinkClose_blind (s : State) : Blind awaitLinkClose s := by
  rcases h : s.env.takeClose with ⟨a, e⟩
  cases a with
  | done => exact (finishClose_blind _).afterAnswer.congr fun u => awaitLinkClose_done (s := s.withUnread u) h
  | notYet => exact (answered_blind e (some .linkClose) s).congr fun u => awaitLinkClose_notYet (s := s.withUnread u) h

theorem awaitTxWrite_blind (bs : Bytes7 Byte) (s : State) : Blind (awaitTxWrite bs) s := by
  rcases h : s.env.takeWrite with ⟨a, e⟩
  cases a with
  | done k =>
    exact ((addTx_blind ⟨bs, k⟩ _).afterAnswer.andThen (g := (·.respond (.sendCommand .ok))) fun _ _ => rfl).congr
      fun u => awaitTxWrite_done (s := s.withUnread u) h
  | notYet =>
    exact (answered_blind e (some (.txWrite bs)) s).congr fun u => awaitTxWrite_notYet (s := s.withUnread u) h

theorem openLink_blind (path : Path) (rate : Word32) (s : State) : Blind (openLink path rate) s := by
  by_cases ho : s.sess = .opened
  · exact (refuse_blind .openWhileOpen s).congr fun u => by simp [openLink, ho]
  · by_cases hr : rate = 0#32
    · exact (openFailed_blind s).congr fun u => by simp [openLink, ho, hr]
    · exact ((awaitLinkOpen_blind path rate _).after (g := (·.issue (.linkOpen path rate lineFormat)))
        fun _ => rfl).congr fun u => by simp [openLink, ho, hr]

theorem closeLink_blind (s : State) : Blind closeLink s := by
  by_cases ho : s.sess = .opened
  · exact ((awaitLinkClose_blind _).after (g := fun s => s.issue (.linkClose s.handle)) fun _ => rfl).congr
      fun u => by simp [closeLink, ho]
  · exact (finishClose_blind s).congr fun u => by simp [closeLink, ho]

/-- `tx_buf` is written whole before the write is issued, so its old bytes are gone (10_state.md R26, R27). -/
theorem sendFrame_blind (bs : Bytes7 Byte) (s : State) :
    Blind (fun s => awaitTxWrite bs ((s.setTxBuf bs).issue (.txWrite bs))) s :=
  (awaitTxWrite_blind bs _).after_mapBuffers (g := fun s => (s.setTxBuf bs).issue (.txWrite bs)) id
    (fun _ => (s.setTxBuf bs).txBuf) fun _ => rfl

theorem sendCommand_blind (src dst : Nibble) (angle : Int) (s : State) : Blind (sendCommand src dst angle) s := by
  by_cases ho : s.sess = .opened
  · exact (sendFrame_blind (encodeCommand s.params src dst angle) s).congr fun u => by simp [sendCommand, ho]
  · exact (respond_blind (.sendCommand .notOpen) s).congr fun u => by simp [sendCommand, ho]

theorem resume_blind (op : Pending) (s : State) : Blind (resume op) s := by
  cases op with
  | linkOpen path rate => exact awaitLinkOpen_blind path rate s
  | linkClose => exact awaitLinkClose_blind s
  | txWrite bs => exact awaitTxWrite_blind bs s

/-! ### The decode cycle -/

/-- A step of the cycle that ends under the unread part `u`, `rx_buf` rewritten by `b`. -/
def CycleStep.withRx (c : CycleStep) (u : Unread) (b : Bytes6 (Option Byte) → Bytes6 (Option Byte)) : CycleStep :=
  match c with
  | .go s => .go (s.withUnread (u.mapBuffers b id))
  | .stop o s => .stop o (s.withUnread (u.mapBuffers b id))

/-- The rest of a cycle from `s` does not read the unread part: the outcome does not depend on it, and the cycle
rewrites at most `rx_buf` (10_state.md R25). -/
def BlindCycle (k : State → FrameOutcome StatusFrame × State) (s : State) : Prop :=
  ∃ b, ∀ u, k (s.withUnread u) = ((k s).1, (k s).2.withUnread (u.mapBuffers b id))

theorem mapBuffers_mapBuffers (u : Unread) (b c : Bytes6 (Option Byte) → Bytes6 (Option Byte)) :
    (u.mapBuffers b id).mapBuffers c id = u.mapBuffers (c ∘ b) id := rfl

theorem thenDo_blind {c : State → CycleStep} {k : State → FrameOutcome StatusFrame × State} {s : State}
    (hc : ∃ b, ∀ u, c (s.withUnread u) = (c s).withRx u b) (hk : ∀ t, BlindCycle k t) :
    BlindCycle (fun s => (c s).thenDo k) s := by
  obtain ⟨b, hb⟩ := hc
  cases h : c s with
  | go t =>
    obtain ⟨b', hrest⟩ := hk t
    exact ⟨b' ∘ b, fun u => by simp only [hb, h, CycleStep.withRx, thenDo_go, hrest, mapBuffers_mapBuffers]⟩
  | stop o t => exact ⟨b, fun u => by simp only [hb, h, CycleStep.withRx, thenDo_stop]⟩

/-- SEEK stores its byte and compares the byte itself, not the buffer (43_resync_decoder.md R153). -/
theorem seekStep_blind (s : State) : ∃ b, ∀ u, seekStep (s.withUnread u) = (seekStep s).withRx u b := by
  rcases h : s.env.takeRx with ⟨x, e⟩
  cases x with
  | gap => exact ⟨id, fun u => by rw [seekStep_gap h, seekStep_gap (s := s.withUnread u) h]; rfl⟩
  | byte c =>
    refine ⟨fun rx => if s.seekIdx = 0#1 then { rx with b0 := some c } else { rx with b1 := some c }, fun u => ?_⟩
    by_cases hc : c = magicWire s.params s.seekIdx
    · rcases BitVec.eq_zero_or_eq_one s.seekIdx with hi | hi <;> rw [hi] at hc ⊢
      · rw [seekStep_first h hi hc, seekStep_first (s := s.withUnread u) h hi hc]; rfl
      · rw [seekStep_second h hi hc, seekStep_second (s := s.withUnread u) h hi hc]; rfl
    · rw [seekStep_mismatch h hc, seekStep_mismatch (s := s.withUnread u) h hc]; rfl

/-- VALIDATE reads only the four body bytes, and READ_BODY has just written them (43_resync_decoder.md R155, R156). -/
theorem afterMagic_blind (s : State) : BlindCycle afterMagic s := by
  rcases h : Env.takeBlock 4 s.env with ⟨bs, e⟩
  have hle : bs.length ≤ 4 := by simpa [h] using takeBlock_length_le 4 s.env
  rcases hle.lt_or_eq with hl | hl
  · exact ⟨id, fun u => by
      unfold afterMagic; rw [readBodyStep_short h hl, readBodyStep_short (s := s.withUnread u) h hl]; rfl⟩
  · obtain ⟨c0, c1, c2, c3, rfl⟩ := List.length_eq_four.1 hl
    exact ⟨fun rx => { rx with b2 := some c0, b3 := some c1, b4 := some c2, b5 := some c3 }, fun u => by
      unfold afterMagic; rw [readBodyStep_full h, readBodyStep_full (s := s.withUnread u) h]; rfl⟩

theorem decodeCycle_blind (s : State) : BlindCycle decodeCycle s :=
  thenDo_blind (c := fun s => seekStep s.enterCycle) (seekStep_blind s.enterCycle) fun t =>
    thenDo_blind (seekStep_blind t) afterMagic_blind

theorem pollLog_length_le (p : Params) (o : FrameOutcome StatusFrame) : (pollLog p o).length ≤ 1 := by
  cases o with
  | decoded f => exact Nat.zero_le _
  | failed r =>
    cases r with
    | timeout => cases h : p.logSeekTimeout <;> simp [pollLog, failLog, h]
    | magicMismatch => exact Nat.zero_le _
    | incompleteFrame => exact le_rfl
    | checksumMismatch obs exp => exact le_rfl

theorem reportOutcome_blind (o : FrameOutcome StatusFrame) (s : State) : Blind (reportOutcome o) s :=
  ((addLog_blind (pollLog_length_le s.params o) s).andThen (g := (·.respond (pollResponse o))) fun _ _ => rfl).congr
    fun _ => rfl

theorem pollStatus_blind (s : State) : Blind pollStatus s := by
  by_cases ho : s.sess = .opened
  · obtain ⟨b, hb⟩ := decodeCycle_blind s
    have hcycle : ∀ u, (decodeCycle (s.withUnread u)).2 = (decodeCycle s).2.withUnread (u.mapBuffers b id) :=
      fun u => congrArg Prod.snd (hb u)
    have hreport := (reportOutcome_blind (decodeCycle s).1 _).after_mapBuffers
      (g := fun s => (decodeCycle s).2) b id hcycle
    exact hreport.congr fun u => by simp [pollStatus, ho, hb]
  · exact (respond_blind (.pollStatus .notOpen none) s).congr fun u => by simp [pollStatus, ho]

/-! ### Every instruction and every step -/

/-- An instruction runs one function, blind from every state. -/
theorem exec_runs_blind (i : Instr) : ∃ f, (∀ s, exec i s = .next (f s)) ∧ ∀ s, Blind f s := by
  cases i with
  | openLink path baud => exact ⟨_, exec_openLink path baud, fun s => whenIdle_blind (openLink_blind path baud s)⟩
  | closeLink => exact ⟨_, exec_closeLink, fun s => whenIdle_blind (closeLink_blind s)⟩
  | sendCommand src dst angle =>
    exact ⟨_, exec_sendCommand src dst angle, fun s => whenIdle_blind (sendCommand_blind src dst angle s)⟩
  | pollStatus => exact ⟨_, exec_pollStatus, fun s => whenIdle_blind (pollStatus_blind s)⟩
  | commandFrame src dst angle ck =>
    exact ⟨_, exec_commandFrame src dst angle ck, fun s => blind_of_untouched fun _ => rfl⟩
  | statusFrame src dst status ck =>
    exact ⟨_, exec_statusFrame src dst status ck, fun s => blind_of_untouched fun _ => rfl⟩

/-- So does a step, in each thing that `fetch` may have it do. -/
theorem step_runs_blind (s : State) : ∃ f, step s = .next (f s) ∧ Blind f s := by
  have hdrop : ∀ u, (s.withUnread u).dropInput = s.dropInput.withUnread u := fun _ => rfl
  cases h : fetch s with
  | wait => exact ⟨id, by simp [step, h], blind_of_untouched fun _ => rfl⟩
  | resume op => exact ⟨_, by simp [step, h], resume_blind op s⟩
  | reset => exact ⟨_, by simp only [step, h], (blockReset_blind _).after hdrop⟩
  | run i =>
    obtain ⟨f, hf, hblind⟩ := exec_runs_blind i
    exact ⟨_, by simp only [step, h, hf], (hblind _).after hdrop⟩
  | refuse r => exact ⟨_, by simp only [step, h], (refuse_blind r _).after hdrop⟩
  | noise bs => exact ⟨_, by simp only [step, h], (deliver_blind bs _).after hdrop⟩

/-! ### The obligations -/

/-- Settles O43: a blind run from other buffers differs only in what its effect makes of them; the histories, which both
runs start with alike, grow alike. -/
theorem oldBufferContentsAreNotObservable : Obligations.OldBufferContentsAreNotObservable := by
  intro i s t rx tx hexec
  obtain ⟨f, hf, hblind⟩ := exec_runs_blind i
  obtain ⟨d, -, -, hd⟩ := hblind s
  obtain rfl : f s = t := by simpa [hf] using hexec
  have hu := unread_of_effect hd
  have htx : (f s).txTrace = s.txTrace ++ d.sent := congrArg Unread.txTrace hu
  have hlog : (f s).logTrace = s.logTrace ++ d.logged := congrArg Unread.logTrace hu
  refine ⟨_, (hf _).trans (congrArg _ (hd ⟨rx, tx, s.txTrace, s.logTrace⟩)), ?_⟩
  simp only [State.withUnread, UnreadEffect.apply, ← htx, ← hlog]

/-- Settles O44: a blind run appends the same entries, at most one each, to any histories; the buffers, which both runs
start with alike, end alike. -/
theorem historiesGrowAndAreNotRead : Obligations.HistoriesGrowAndAreNotRead := by
  constructor
  · intro i s t hexec
    obtain ⟨f, hf, hblind⟩ := exec_runs_blind i
    obtain ⟨d, hsent, hlogged, hd⟩ := hblind s
    obtain rfl : f s = t := by simpa [hf] using hexec
    have hu := unread_of_effect hd
    have hrx : (f s).rxBuf = d.rx s.rxBuf := congrArg Unread.rxBuf hu
    have htx : (f s).txBuf = d.tx s.txBuf := congrArg Unread.txBuf hu
    refine ⟨d.sent, d.logged, congrArg Unread.txTrace hu, hsent, congrArg Unread.logTrace hu, hlogged, fun a l => ?_⟩
    refine (hf _).trans (congrArg _ ((hd ⟨s.rxBuf, s.txBuf, a, l⟩).trans ?_))
    simp only [State.withUnread, UnreadEffect.apply, ← hrx, ← htx]
  · intro s t hstep
    obtain ⟨f, hf, hblind⟩ := step_runs_blind s
    obtain rfl : f s = t := by simpa [hf] using hstep
    exact hblind.historiesGrow

end Sys2Proof.Machine

/-! The checksum tells short payloads apart (41_checksum.md R105). The register's shifts are linear over GF(2), and for
an odd polynomial each of them is injective. So one or two bytes act as the one register word they make up: the register
ends as the shifts of `init xor word`, and another payload, being another word, has another checksum. -/

namespace Sys2Proof.Machine

/-! ### The CRC register -/

/-- One shift is linear over GF(2): of two top bits that are set, the two copies of the polynomial cancel. -/
theorem crcBit_xor (poly x y : Word16) : crcBit poly (x ^^^ y) = crcBit poly x ^^^ crcBit poly y := by
  unfold crcBit
  rw [BitVec.getLsbD_xor, BitVec.shiftLeft_xor_distrib]
  cases x.getLsbD 15 <;> cases y.getLsbD 15
  · rfl
  · exact BitVec.xor_assoc _ _ _
  · show x <<< 1 ^^^ y <<< 1 ^^^ poly = x <<< 1 ^^^ poly ^^^ y <<< 1
    ac_rfl
  · calc x <<< 1 ^^^ y <<< 1 = x <<< 1 ^^^ y <<< 1 ^^^ (poly ^^^ poly) := by simp
      _ = (x <<< 1 ^^^ poly) ^^^ (y <<< 1 ^^^ poly) := by ac_rfl

theorem crcShift_xor (poly : Word16) (n : Nat) (x y : Word16) :
    crcShift poly n (x ^^^ y) = crcShift poly n x ^^^ crcShift poly n y := by
  induction n generalizing x y with
  | zero => rfl
  | succ n ih => simp only [crcShift, crcBit_xor, ih]

theorem crcShift_crcShift (poly : Word16) (m n : Nat) (w : Word16) :
    crcShift poly n (crcShift poly m w) = crcShift poly (m + n) w := by
  induction m generalizing w with
  | zero => rw [Nat.zero_add, crcShift]
  | succ m ih => rw [Nat.succ_add, crcShift, crcShift, ih]

/-- The constant term of an odd polynomial brings the bit that was shifted out back in at the bottom. -/
theorem crcBit_getLsbD_zero {poly : Word16} (hodd : poly.getLsbD 0 = true) (w : Word16) :
    (crcBit poly w).getLsbD 0 = w.getLsbD 15 := by
  unfold crcBit
  cases w.getLsbD 15
  · simp
  · simpa using hodd

theorem crcBit_injective {poly : Word16} (hodd : poly.getLsbD 0 = true) : Function.Injective (crcBit poly) := by
  intro x y h
  have htop : x.getLsbD 15 = y.getLsbD 15 := by
    rw [← crcBit_getLsbD_zero hodd, h, crcBit_getLsbD_zero hodd]
  have hrest : x <<< 1 = y <<< 1 := by
    unfold crcBit at h
    rw [htop] at h
    split at h
    · exact (BitVec.xor_left_inj poly).1 h
    · exact h
  refine BitVec.eq_of_getLsbD_eq fun i hi => ?_
  obtain rfl | hlow : i = 15 ∨ i + 1 < 16 := by omega
  · exact htop
  · simpa [hi, hlow] using congrArg (BitVec.getLsbD · (i + 1)) hrest

/-- `x^16 + poly` has a constant term, so it is coprime to `x` and no shift loses anything (41_checksum.md R105). -/
theorem crcShift_injective {poly : Word16} (hodd : poly.getLsbD 0 = true) (n : Nat) :
    Function.Injective (crcShift poly n) := by
  induction n with
  | zero => exact Function.injective_id
  | succ n ih => exact ih.comp (crcBit_injective hodd)

/-- While no set bit reaches the top, the polynomial stays out. -/
theorem crcShift_eq_shiftLeft (poly : Word16) {n k : Nat} (hn : n + k ≤ 16) {w : Word16} (hw : w.toNat < 2 ^ k) :
    crcShift poly n w = w <<< n := by
  induction n generalizing k w with
  | zero => simp [crcShift]
  | succ n ih =>
    have htop : w.getLsbD 15 = false :=
      Nat.testBit_lt_two_pow (hw.trans_le (Nat.pow_le_pow_right (by decide) (by omega)))
    have hshifted : (w <<< 1).toNat < 2 ^ (k + 1) := by
      have hle : (w <<< 1).toNat ≤ w.toNat * 2 := by simpa [Nat.shiftLeft_eq] using Nat.mod_le _ _
      omega
    calc crcShift poly (n + 1) w = crcShift poly n (w <<< 1) := by rw [crcShift, crcBit, htop]; rfl
      _ = w <<< (n + 1) := by rw [ih (by omega) hshifted, Nat.add_comm n, BitVec.shiftLeft_add]

/-! ### The register after one byte and after two -/

theorem fromLe16_zero_lo (b : Byte) : fromLe16 0#8 b = b.setWidth 16 <<< 8 := by
  apply BitVec.eq_of_toNat_eq
  have := b.isLt
  simp [fromLe16_toNat, Nat.shiftLeft_eq]
  omega

theorem fromLe16_zero_hi (b : Byte) : fromLe16 b 0#8 = b.setWidth 16 := by
  apply BitVec.eq_of_toNat_eq
  have := b.isLt
  simp [fromLe16_toNat]
  omega

theorem fromLe16_xor (lo hi lo' hi' : Byte) :
    fromLe16 lo hi ^^^ fromLe16 lo' hi' = fromLe16 (lo ^^^ lo') (hi ^^^ hi') :=
  BitVec.xor_append

theorem fromLe16_inj {lo hi lo' hi' : Byte} : fromLe16 lo hi = fromLe16 lo' hi' ↔ lo = lo' ∧ hi = hi' := by
  constructor
  · intro h
    have hlo := congrArg loByte h
    have hhi := congrArg hiByte h
    exact ⟨by simpa using hlo, by simpa using hhi⟩
  · rintro ⟨rfl, rfl⟩
    rfl

theorem crcByte_eq_crcShift (c : CrcParams) (reg : Word16) (a : Byte) :
    crcByte c reg a = crcShift c.poly 8 (reg ^^^ fromLe16 0#8 (crcInput c a)) := by
  rw [crcByte, fromLe16_zero_lo]

/-- A second byte may as well enter at the bottom before the first eight shifts: they only carry it to the top. -/
theorem crcByte_crcByte (c : CrcParams) (reg : Word16) (a b : Byte) :
    crcByte c (crcByte c reg a) b = crcShift c.poly 16 (reg ^^^ fromLe16 (crcInput c b) (crcInput c a)) := by
  have hcarry : crcShift c.poly 8 (fromLe16 (crcInput c b) 0#8) = fromLe16 0#8 (crcInput c b) := by
    rw [fromLe16_zero_hi, fromLe16_zero_lo]
    exact crcShift_eq_shiftLeft c.poly (k := 8) le_rfl (by have := (crcInput c b).isLt; simpa using by omega)
  have hword : fromLe16 0#8 (crcInput c a) ^^^ fromLe16 (crcInput c b) 0#8 =
      fromLe16 (crcInput c b) (crcInput c a) := by
    simp [fromLe16_xor]
  rw [crcByte_eq_crcShift, crcByte_eq_crcShift, ← hcarry, ← crcShift_xor, crcShift_crcShift, BitVec.xor_assoc,
    hword]

/-! ### Injectivity -/

theorem reflect_injective {n : Nat} : Function.Injective (reflect : BitVec n → BitVec n) :=
  Function.Involutive.injective fun _ => BitVec.reverse_reverse_eq

theorem crcInput_injective (c : CrcParams) : Function.Injective (crcInput c) := by
  intro a b h
  unfold crcInput at h
  split at h
  · exact reflect_injective h
  · exact h

theorem crcFinal_injective (c : CrcParams) : Function.Injective (crcFinal c) := by
  intro x y h
  have hreg := (BitVec.xor_left_inj c.xorout).1 h
  split at hreg
  · exact reflect_injective hreg
  · exact hreg

/-- What is shifted out of `reg xor w` determines `w`. -/
theorem crcShift_xor_injective {poly : Word16} (hodd : poly.getLsbD 0 = true) (n : Nat) (reg : Word16) :
    Function.Injective fun w => crcShift poly n (reg ^^^ w) :=
  fun _ _ h => (BitVec.xor_right_inj reg).1 (crcShift_injective hodd n h)

theorem checksum_one_inj {c : CrcParams} (hodd : c.poly.getLsbD 0 = true) {a a' : Byte}
    (h : checksum c [a] = checksum c [a']) : a = a' := by
  have hreg : crcByte c c.init a = crcByte c c.init a' := crcFinal_injective c h
  rw [crcByte_eq_crcShift, crcByte_eq_crcShift] at hreg
  have hword := crcShift_xor_injective hodd 8 c.init hreg
  exact crcInput_injective c (fromLe16_inj.1 hword).2

theorem checksum_two_inj {c : CrcParams} (hodd : c.poly.getLsbD 0 = true) {a b a' b' : Byte}
    (h : checksum c [a, b] = checksum c [a', b']) : a = a' ∧ b = b' := by
  have hreg : crcByte c (crcByte c c.init a) b = crcByte c (crcByte c c.init a') b' := crcFinal_injective c h
  rw [crcByte_crcByte, crcByte_crcByte] at hreg
  have hword := crcShift_xor_injective hodd 16 c.init hreg
  obtain ⟨hb, ha⟩ := fromLe16_inj.1 hword
  exact ⟨crcInput_injective c ha, crcInput_injective c hb⟩

/-- CHECKSUM is injective on payloads of one byte and on payloads of two (41_checksum.md R105). -/
theorem checksum_inj {c : CrcParams} (hodd : c.poly.getLsbD 0 = true) {d d' : List Byte} (hlen : d.length = d'.length)
    (hshort : d.length = 1 ∨ d.length = 2) (h : checksum c d = checksum c d') : d = d' := by
  rcases hshort with h1 | h2
  · obtain ⟨a, rfl⟩ := List.length_eq_one_iff.1 h1
    obtain ⟨a', rfl⟩ := List.length_eq_one_iff.1 hlen.symm
    rw [checksum_one_inj hodd h]
  · obtain ⟨a, b, rfl⟩ := List.length_eq_two.1 h2
    obtain ⟨a', b', rfl⟩ := List.length_eq_two.1 hlen.symm
    obtain ⟨rfl, rfl⟩ := checksum_two_inj hodd h
    rfl

theorem validate_fst_eq_false {c : CrcParams} {d : List Byte} {ck : Word16} (h : ck ≠ checksum c d) :
    (validate c d ck).1 = false :=
  decide_eq_false h

/-- Two legal angles with the same payload bytes are the same angle. -/
theorem commandPayload_inj {a b : Int} (ha : -32768 ≤ a) (ha' : a ≤ 32767) (hb : -32768 ≤ b) (hb' : b ≤ 32767)
    (h : commandPayload a = commandPayload b) : a = b := by
  have hword : word16 a = word16 b := by
    obtain ⟨hlo, hhi⟩ : loByte (word16 a) = loByte (word16 b) ∧ hiByte (word16 a) = hiByte (word16 b) := by
      simpa [commandPayload, le16] using h
    rw [← fromLe16_bytes (word16 a), hlo, hhi, fromLe16_bytes]
  rw [← int16_word16 ha ha', hword, int16_word16 hb hb']

/-- Settles O7: other payload bytes make another register word, and the shifts, the reflections and the output XOR are
injective. -/
theorem payloadCorruptionIsDetected : Obligations.PayloadCorruptionIsDetected := by
  intro p hodd
  refine ⟨fun d d' hlen hshort hne => ?_, fun x y hne => ?_, fun a b ha ha' hb hb' hne => ?_⟩
  · have hck : checksum p.crc d ≠ checksum p.crc d' := fun h => hne (checksum_inj hodd hlen hshort h)
    exact ⟨hck, validate_fst_eq_false hck⟩
  · exact fun h => hne (checksum_one_inj hodd h)
  · exact fun h => hne (commandPayload_inj ha ha' hb hb' (checksum_inj hodd rfl (.inr rfl) h))

end Sys2Proof.Machine

/-! The frame codec undoes itself (42_frame_codec.md R121, R127): the two nibbles of a header come apart again, and a
parse of an encoded frame meets the magic, the header and the checksum that the encoder laid. -/

namespace Sys2Proof.Machine

/-! ### The header byte -/

@[simp] theorem loNibble_append (hi lo : Nibble) : loNibble (hi ++ lo) = lo :=
  BitVec.extractLsb'_append_eq_right

@[simp] theorem hiNibble_append (hi lo : Nibble) : hiNibble (hi ++ lo) = hi :=
  BitVec.extractLsb'_append_eq_left

theorem hiNibble_append_loNibble (h : Byte) : (hiNibble h ++ loNibble h : Byte) = h :=
  (BitVec.extractLsb'_append_extractLsb'_eq_extractLsb' rfl).trans BitVec.extractLsb'_eq_self

@[simp] theorem headerSrc_packHeader (p : Params) (s d : Nibble) : headerSrc p (packHeader p s d) = s := by
  unfold headerSrc packHeader
  cases p.hdrSrcLow
  · exact hiNibble_append s d
  · exact loNibble_append d s

@[simp] theorem headerDst_packHeader (p : Params) (s d : Nibble) : headerDst p (packHeader p s d) = d := by
  unfold headerDst packHeader
  cases p.hdrSrcLow
  · exact loNibble_append s d
  · exact hiNibble_append d s

theorem packHeader_headerSrc_headerDst (p : Params) (h : Byte) : packHeader p (headerSrc p h) (headerDst p h) = h := by
  unfold packHeader headerSrc headerDst
  cases p.hdrSrcLow <;> exact hiNibble_append_loNibble h

theorem unpackHeader_eq_ite (p : Params) (h : Byte) :
    unpackHeader p h = if p.hdrSrcLow then (loNibble h, hiNibble h) else (hiNibble h, loNibble h) := by
  unfold unpackHeader headerSrc headerDst
  cases p.hdrSrcLow <;> rfl

/-- Settles O12: under either nibble order the header is the two nibbles side by side. -/
theorem headerPackingIsInvertible : Obligations.HeaderPackingIsInvertible :=
  ⟨fun p s d => Prod.ext (headerSrc_packHeader p s d) (headerDst_packHeader p s d), packHeader_headerSrc_headerDst,
    unpackHeader_eq_ite⟩

/-! ### Frames -/

/-- Behind the magic the checksum alone decides: VALIDATE over the payload, then the fields (42_frame_codec.md R125). -/
theorem parseCommand_of_magic {p : Params} {f : Bytes7 Byte} (h0 : f.b0 = loByte p.magic) (h1 : f.b1 = hiByte p.magic) :
    parseCommand p f =
      if fromLe16 f.b5 f.b6 = checksum p.crc [f.b3, f.b4] then
        .decoded ⟨headerSrc p f.b2, headerDst p f.b2, int16 (fromLe16 f.b3 f.b4), fromLe16 f.b5 f.b6⟩
      else .failed (.checksumMismatch (fromLe16 f.b5 f.b6) (checksum p.crc [f.b3, f.b4])) := by
  by_cases hck : fromLe16 f.b5 f.b6 = checksum p.crc [f.b3, f.b4] <;>
    simp [parseCommand, validate, magicWire_zero, magicWire_one, h0, h1, hck]

/-- Behind the magic a status frame has the verdict of its body (42_frame_codec.md R124). -/
theorem parseStatus_of_magic {p : Params} {f : Bytes6 Byte} (h0 : f.b0 = loByte p.magic) (h1 : f.b1 = hiByte p.magic) :
    parseStatus p f = statusVerdict p f.b2 f.b3 f.b4 f.b5 := by
  simp [parseStatus, magicWire_zero, magicWire_one, h0, h1]

theorem statusVerdict_of_checksum {p : Params} {hdr status ckLo ckHi : Byte}
    (hck : fromLe16 ckLo ckHi = statusCk p status) :
    statusVerdict p hdr status ckLo ckHi = .decoded ⟨headerSrc p hdr, headerDst p hdr, status, statusCk p status⟩ := by
  obtain ⟨-, hv⟩ | ⟨hne, -⟩ := statusVerdict_cases p hdr status ckLo ckHi
  · rw [hv, hck]
  · exact absurd hck hne

/-- The two checksum bytes make up the field again, and the angle is legal, so its pattern reads back as itself
(42_frame_codec.md R127). -/
theorem parseCommand_encodeCommand (p : Params) (s d : Nibble) {a : Int} (hlo : -32768 ≤ a) (hhi : a ≤ 32767) :
    parseCommand p (encodeCommand p s d a) = .decoded ⟨s, d, a, commandCk p a⟩ :=
  calc parseCommand p (encodeCommand p s d a)
    _ = .decoded ⟨headerSrc p (packHeader p s d), headerDst p (packHeader p s d),
          int16 (fromLe16 (loByte (word16 a)) (hiByte (word16 a))),
          fromLe16 (loByte (commandCk p a)) (hiByte (commandCk p a))⟩ :=
        (parseCommand_of_magic rfl rfl).trans (if_pos (fromLe16_bytes _))
    _ = .decoded ⟨s, d, a, commandCk p a⟩ := by simp [int16_word16 hlo hhi]

theorem parseStatus_encodeStatus (p : Params) (s d : Nibble) (x : Byte) :
    parseStatus p (encodeStatus p s d x) = .decoded ⟨s, d, x, statusCk p x⟩ :=
  calc parseStatus p (encodeStatus p s d x)
    _ = statusVerdict p (packHeader p s d) x (loByte (statusCk p x)) (hiByte (statusCk p x)) :=
        parseStatus_of_magic rfl rfl
    _ = .decoded ⟨headerSrc p (packHeader p s d), headerDst p (packHeader p s d), x, statusCk p x⟩ :=
        statusVerdict_of_checksum (fromLe16_bytes _)
    _ = .decoded ⟨s, d, x, statusCk p x⟩ := by simp

/-- Settles O13: the encoder lays the magic and the checksum that the parser asks for. -/
theorem parseOfEncodePerKind : Obligations.ParseOfEncodePerKind :=
  ⟨fun p s d _ hlo hhi => parseCommand_encodeCommand p s d hlo hhi, parseStatus_encodeStatus⟩

end Sys2Proof.Machine

/-! The decode cycle against the pure parser (43_resync_decoder.md R160), and what each of its outcomes reads from the
link (R158). Both are read off the paths of a cycle. -/

namespace Sys2Proof.Machine

/-! ### A cycle over the six bytes of a frame -/

theorem parseStatus_of_first_mismatch {p : Params} {f : Bytes6 Byte} (h0 : f.b0 ≠ magicWire p 0#1) :
    parseStatus p f = .failed .magicMismatch :=
  if_pos h0

theorem parseStatus_of_second_mismatch {p : Params} {f : Bytes6 Byte} (h1 : f.b1 ≠ magicWire p 1#1) :
    parseStatus p f = .failed .magicMismatch := by
  simp [parseStatus, h1]

section
variable {s : State} {f : Bytes6 Byte} {rest : List RxItem} (hrx : s.env.rx = frameItems f ++ rest)
include hrx

/-- The first seek meets the first byte of the frame. -/
theorem takeRx_frameItems :
    s.env.takeRx = (.byte f.b0, { s.env with rx := (frameItems f).drop 1 ++ rest }) :=
  takeRx_listed hrx

/-- A mismatching first byte is consumed alone, by the one seek. -/
theorem cyclePath_frame_first_mismatch (h0 : f.b0 ≠ magicWire s.params 0#1) :
    CyclePath s (parseStatus s.params f) { s.env with rx := (frameItems f).drop 1 ++ rest }
      [.rxByte s.params.tByteMs (.byte f.b0)] := by
  rw [parseStatus_of_first_mismatch h0]
  exact cyclePath_mismatch (takeRx_frameItems hrx) h0

/-- A mismatching second byte is the last one consumed. -/
theorem cyclePath_frame_second_mismatch (h0 : f.b0 = magicWire s.params 0#1) (h1 : f.b1 ≠ magicWire s.params 1#1) :
    CyclePath s (parseStatus s.params f) { s.env with rx := (frameItems f).drop 2 ++ rest }
      [.rxByte s.params.tByteMs (.byte (magicWire s.params 0#1)), .rxByte s.params.tByteMs (.byte f.b1)] := by
  rw [parseStatus_of_second_mismatch h1]
  have hfirst := takeRx_frameItems hrx
  rw [h0] at hfirst
  exact cyclePath_first_mismatch hfirst (takeRx_listed rfl) h1

/-- Behind the magic the block read takes the rest of the frame. -/
theorem cyclePath_frame_magic (h0 : f.b0 = magicWire s.params 0#1) (h1 : f.b1 = magicWire s.params 1#1) :
    CyclePath s (parseStatus s.params f) { s.env with rx := rest }
      [.rxByte s.params.tByteMs (.byte (magicWire s.params 0#1)),
        .rxByte s.params.tByteMs (.byte (magicWire s.params 1#1)),
        .rxBlock 4 s.bodyBudget (.bytes [f.b2, f.b3, f.b4, f.b5])] := by
  rw [parseStatus_of_magic h0 h1]
  have hfirst := takeRx_frameItems hrx
  rw [h0] at hfirst
  have hsecond : Env.takeRx { s.env with rx := (frameItems f).drop 1 ++ rest } =
      (.byte (magicWire s.params 1#1), { s.env with rx := (frameItems f).drop 2 ++ rest }) := by
    rw [← h1]
    exact takeRx_listed rfl
  exact cyclePath_full hfirst hsecond (takeBlock_listed [f.b2, f.b3, f.b4, f.b5] rfl)

end

/-- Settles O17: the two magic comparisons of the parser are the two seeks of the cycle, and pick its path. -/
theorem cycleAgreesWithParser : Obligations.CycleAgreesWithParser := by
  intro s f rest hrx
  refine ⟨?_, fun h0 => ?_, fun h0 h1 => ?_, fun h0 h1 => ?_⟩
  · by_cases h0 : f.b0 = magicWire s.params 0#1
    · by_cases h1 : f.b1 = magicWire s.params 1#1
      · exact (cyclePath_frame_magic hrx h0 h1).1
      · exact (cyclePath_frame_second_mismatch hrx h0 h1).1
    · exact (cyclePath_frame_first_mismatch hrx h0).1
  · obtain ⟨-, henv, hissued⟩ := cyclePath_frame_first_mismatch hrx h0
    exact ⟨congrArg Env.rx henv, hissued⟩
  · obtain ⟨-, henv, -⟩ := cyclePath_frame_second_mismatch hrx h0 h1
    exact congrArg Env.rx henv
  · obtain ⟨-, henv, -⟩ := cyclePath_frame_magic hrx h0 h1
    exact congrArg Env.rx henv

/-! ### What a cycle reads from the link -/

/-- The reads `cs` are seeks in the first two places and body reads behind them, each with its budget
(43_resync_decoder.md R158, 44_link_session.md R191, R192). -/
def State.ReadsBudgeted (s : State) (cs : List LinkCall) : Prop :=
  ∀ (j : Nat) (c : LinkCall), cs[j]? = some c →
    if j < 2 then ∃ a, c = .rxByte s.params.tByteMs a else ∃ a, c = .rxBlock 4 s.bodyBudget a

theorem readsBudgeted_body (s : State) (a b : ByteAnswer) (d : BlockAnswer) :
    s.ReadsBudgeted [.rxByte s.params.tByteMs a, .rxByte s.params.tByteMs b, .rxBlock 4 s.bodyBudget d] := by
  intro j c hc
  match j with
  | 0 => exact ⟨a, by simpa using hc.symm⟩
  | 1 => exact ⟨b, by simpa using hc.symm⟩
  | 2 => exact ⟨d, by simpa using hc.symm⟩
  | j + 3 => simp at hc

/-- A cycle that ends early issued a first part of the reads. -/
theorem State.ReadsBudgeted.of_append {s : State} {cs ds : List LinkCall} (h : s.ReadsBudgeted (cs ++ ds)) :
    s.ReadsBudgeted cs :=
  fun j c hc => h j c ((List.getElem?_append_left (List.getElem?_eq_some_iff.1 hc).1).trans hc)

theorem readsBudgeted_two_seeks (s : State) (a b : ByteAnswer) :
    s.ReadsBudgeted [.rxByte s.params.tByteMs a, .rxByte s.params.tByteMs b] :=
  (readsBudgeted_body s a b (.short [])).of_append (cs := [_, _])

theorem readsBudgeted_one_seek (s : State) (a : ByteAnswer) : s.ReadsBudgeted [.rxByte s.params.tByteMs a] :=
  (readsBudgeted_two_seeks s a .timeout).of_append (cs := [_])

theorem consumedBytes_short_body (t : Nat) (w : Option Nat) (b0 b1 : Byte) (bs : List Byte) :
    consumedBytes [.rxByte t (.byte b0), .rxByte t (.byte b1), .rxBlock 4 w (.short bs)] = b0 :: b1 :: bs := by
  simp [consumedBytes, LinkCall.consumed, BlockAnswer.list]

/-- Settles O18: each path of a cycle names its outcome and its reads. -/
theorem bytesConsumedPerOutcome : Obligations.BytesConsumedPerOutcome := by
  intro s
  obtain ⟨e, -, hout, -, hissued⟩ | ⟨e, b, -, -, hout, -, hissued⟩ | ⟨e, -, hsecond⟩ := decodeCycle_paths s
  · exact ⟨_, hissued, readsBudgeted_one_seek s _, by rw [hout]; exact .inl ⟨rfl, rfl⟩⟩
  · exact ⟨_, hissued, readsBudgeted_one_seek s _, by rw [hout]; exact .inl ⟨rfl, rfl⟩⟩
  obtain ⟨e1, -, hout, -, hissued⟩ | ⟨e1, b, -, -, hout, -, hissued⟩ | ⟨e1, -, hbody⟩ := hsecond
  · exact ⟨_, hissued, readsBudgeted_two_seeks s _ _, by rw [hout]; exact .inr ⟨rfl, rfl⟩⟩
  · exact ⟨_, hissued, readsBudgeted_two_seeks s _ _, by rw [hout]; exact .inr ⟨rfl, rfl⟩⟩
  obtain ⟨e2, bs, -, hlen, hout, -, hissued⟩ | ⟨e2, c0, c1, c2, c3, -, hout, -, hissued⟩ := hbody
  · refine ⟨_, hissued, readsBudgeted_body s _ _ _, ?_⟩
    rw [hout]
    exact ⟨rfl, bs.length, by omega, by rw [consumedBytes_short_body, Nat.add_comm]; rfl⟩
  · refine ⟨_, hissued, readsBudgeted_body s _ _ _, ?_⟩
    rw [hout]
    obtain ⟨-, hverdict⟩ | ⟨-, hverdict⟩ := statusVerdict_cases s.params c0 c1 c2 c3 <;> rw [hverdict]
    · exact ⟨rfl, rfl⟩
    · exact ⟨rfl, rfl⟩

end Sys2Proof.Machine

/-! The results of the link session (44_link_session.md): the body budget (R192), what CLOSE, SEND_COMMAND and
POLL_STATUS do (R195 to R197), the silence of degraded mode (R198), and who writes the session (R202). One equation per
operation and session mode comes first; the obligations are read off these equations. -/

namespace Sys2Proof.Machine

/-! ### The timeout controller -/

theorem tBodyMs_eq (rate : Nat) : tBodyMs rate = 60000 / rate * 2 + 5 := rfl

theorem tBodyMs_of_rate_gt {rate : Nat} (h : 60000 < rate) : tBodyMs rate = 5 := by
  rw [tBodyMs_eq, Nat.div_eq_of_lt h]

/-- Rounding down loses less than one millisecond, and the budget adds five (44_link_session.md R192). -/
theorem frameTime_le_tBodyMs {rate : Nat} (h : 0 < rate) : (60000 : ℚ) / rate ≤ tBodyMs rate := by
  have hround : 60000 ≤ tBodyMs rate * rate :=
    calc 60000 ≤ rate * (60000 / rate + 1) := (Nat.lt_mul_div_succ 60000 h).le
      _ ≤ rate * tBodyMs rate := Nat.mul_le_mul_left rate (by rw [tBodyMs_eq]; omega)
      _ = tBodyMs rate * rate := Nat.mul_comm _ _
  rw [div_le_iff₀ (by exact_mod_cast h)]
  exact_mod_cast hround

theorem rxBlock_issued (s : State) :
    s.rxBlock.2.issued = s.issued ++ [.rxBlock 4 s.bodyBudget s.rxBlock.1] := rfl

theorem bodyBudget_of_baud {s : State} {rate : Word32} (h : s.baud = some rate) :
    s.bodyBudget = some (tBodyMs rate.toNat) := by
  simp [State.bodyBudget, h]

/-- Settles O26: the quotient is off by less than one, which the five milliseconds on top make good. -/
theorem bodyBudgetCoversTheFrame : Obligations.BodyBudgetCoversTheFrame := by
  refine ⟨fun rate _ => tBodyMs_eq rate, by decide, fun _ => tBodyMs_of_rate_gt, fun _ => frameTime_le_tBodyMs,
    fun s rate hbaud => ⟨s.rxBlock.1, ?_⟩⟩
  rw [rxBlock_issued, bodyBudget_of_baud hbaud]

/-! ### The host operations, by session mode -/

section Modes
variable {s : State}

theorem setPending_of_pending {op : Option Pending} (h : s.pending = op) : s.setPending op = s := by
  rw [← h]
  rfl

theorem closeLink_of_not_opened (ho : s.sess ≠ .opened) : closeLink s = s.finishClose := if_neg ho

theorem closeLink_of_opened (ho : s.sess = .opened) :
    closeLink s = awaitLinkClose (s.issue (.linkClose s.handle)) := if_pos ho

theorem sendCommand_of_not_opened (ho : s.sess ≠ .opened) (src dst : Nibble) (angle : Int) :
    sendCommand src dst angle s = s.respond (.sendCommand .notOpen) := if_neg ho

theorem sendCommand_of_opened (ho : s.sess = .opened) (src dst : Nibble) (angle : Int) :
    sendCommand src dst angle s = awaitTxWrite (encodeCommand s.params src dst angle)
      ((s.setTxBuf (encodeCommand s.params src dst angle)).issue (.txWrite (encodeCommand s.params src dst angle))) :=
  if_pos ho

theorem pollStatus_of_not_opened (ho : s.sess ≠ .opened) : pollStatus s = s.respond (.pollStatus .notOpen none) :=
  if_neg ho

theorem pollStatus_of_opened (ho : s.sess = .opened) :
    pollStatus s = reportOutcome (decodeCycle s).1 (decodeCycle s).2 := if_pos ho

end Modes

/-! ### CLOSE and SEND_COMMAND -/

/-- Settles O29: with no operation in progress the answer to `LinkClose` leaves none. -/
theorem closeResults : Obligations.CloseResults := by
  intro s hp
  rw [exec_closeLink, whenIdle_idle hp]
  refine ⟨fun ho => ?_, fun ho e he => ?_⟩
  · rw [closeLink_of_not_opened ho]
    rfl
  · rw [closeLink_of_opened ho, awaitLinkClose_done (s := s.issue _) he,
      setPending_of_pending (s := (s.issue _).setEnv e) hp]
    rfl

/-- Settles O30: the count that `TxWrite` accepted goes into the record and nowhere else. -/
theorem sendCommandResults : Obligations.SendCommandResults := by
  intro s src dst angle hp
  rw [exec_sendCommand, whenIdle_idle hp]
  refine ⟨fun ho => ?_, ?_⟩
  · rw [sendCommand_of_not_opened ho]
    rfl
  · rintro ho k e he f rfl
    rw [sendCommand_of_opened ho, awaitTxWrite_done (s := (s.setTxBuf _).issue _) he,
      setPending_of_pending (s := ((s.setTxBuf _).issue _).setEnv e) hp]
    rfl

/-! ### POLL_STATUS -/

section Poll
variable {s t : State} {o : FrameOutcome StatusFrame}

/-- A cycle leaves what a poll reports with: the parameters that pick the log events, and the histories they join. -/
theorem cycle_keeps_params_and_histories (hc : decodeCycle s = (o, t)) :
    t.params = s.params ∧ t.logTrace = s.logTrace ∧ t.respTrace = s.respTrace := by
  have hframe : CycleFrame s t := by simpa [hc] using decodeCycle_frame s
  rw [hframe]
  exact ⟨rfl, rfl, rfl⟩

/-- A poll adds the log events and the response of the cycle's outcome to the state the cycle left. -/
theorem exec_pollStatus_of_cycle (hp : s.pending = none) (ho : s.sess = .opened) (hc : decodeCycle s = (o, t)) :
    exec .pollStatus s = .next { t with
      logTrace := s.logTrace ++ pollLog s.params o, respTrace := s.respTrace ++ [pollResponse o] } := by
  obtain ⟨hparams, hlog, hresp⟩ := cycle_keeps_params_and_histories hc
  rw [exec_pollStatus, whenIdle_idle hp, pollStatus_of_opened ho, hc, ← hlog, ← hresp, ← hparams]
  rfl

/-- An outcome that is not logged leaves the log of the cycle, which is the old one. -/
theorem exec_pollStatus_of_unlogged (hp : s.pending = none) (ho : s.sess = .opened) (hc : decodeCycle s = (o, t))
    (hquiet : pollLog s.params o = []) :
    exec .pollStatus s = .next { t with respTrace := s.respTrace ++ [pollResponse o] } := by
  obtain ⟨-, hlog, -⟩ := cycle_keeps_params_and_histories hc
  rw [exec_pollStatus_of_cycle hp ho hc, hquiet, List.append_nil, ← hlog]

end Poll

/-- Settles O31: each outcome's code, frame and log events are those of `pollResponse` and `pollLog`. -/
theorem pollStatusResults : Obligations.PollStatusResults := by
  refine fun s hp => ⟨fun ho => ?_, fun ho o t hc => ⟨?_, ?_, ?_, ?_, ?_⟩⟩
  · rw [exec_pollStatus, whenIdle_idle hp, pollStatus_of_not_opened ho]
    rfl
  · rintro fr rfl
    exact exec_pollStatus_of_unlogged hp ho hc rfl
  · rintro rfl
    exact exec_pollStatus_of_cycle hp ho hc
  · rintro rfl
    exact exec_pollStatus_of_unlogged hp ho hc rfl
  · rintro rfl
    exact exec_pollStatus_of_cycle hp ho hc
  · rintro ob ex rfl
    exact exec_pollStatus_of_cycle hp ho hc

/-! ### Degraded mode -/

/-- While no link is held, a send or a poll only responds (44_link_session.md R198). -/
theorem exec_of_silentResponse {i : Instr} {s : State} {r : Response} (hp : s.pending = none) (ho : s.sess ≠ .opened)
    (hr : silentResponse i = some r) : exec i s = .next (s.respond r) := by
  cases i with
  | sendCommand src dst angle =>
    cases hr
    rw [exec_sendCommand, whenIdle_idle hp, sendCommand_of_not_opened ho]
  | pollStatus =>
    cases hr
    rw [exec_pollStatus, whenIdle_idle hp, pollStatus_of_not_opened ho]
  | openLink | closeLink | commandFrame | statusFrame => cases hr

theorem execAll_cons_of_next {i : Instr} {s t : State} (h : exec i s = .next t) (is : List Instr) :
    execAll (i :: is) s = execAll is t := by
  rw [execAll, h]

/-- Settles O40, by induction on the sequence: a response changes neither the session nor the operation in progress, so
the next instruction is silent too. -/
theorem degradedModeIsSilent : Obligations.DegradedModeIsSilent := by
  intro is
  induction is with
  | nil =>
    intro s _ _ _
    simp [execAll]
  | cons i is ih =>
    intro s hp ho hsilent
    obtain ⟨hi, his⟩ := List.forall_mem_cons.1 hsilent
    obtain ⟨r, hr⟩ := Option.isSome_iff_exists.1 hi
    calc execAll (i :: is) s
      _ = execAll is (s.respond r) := execAll_cons_of_next (exec_of_silentResponse hp ho hr) is
      _ = .next { s.respond r with respTrace := s.respTrace ++ [r] ++ is.filterMap silentResponse } := ih _ hp ho his
      _ = .next { s with respTrace := s.respTrace ++ (i :: is).filterMap silentResponse } := by
        rw [List.filterMap_cons_some hr, List.append_assoc]
        rfl

/-! ### Who writes the session -/

/-- `t` has the session of `s`: the three fields that 10_state.md R23 ties together. -/
def SessionKept (s t : State) : Prop := t.sess = s.sess ∧ t.handle = s.handle ∧ t.baud = s.baud

theorem SessionKept.refl (s : State) : SessionKept s s := ⟨rfl, rfl, rfl⟩

theorem awaitTxWrite_keeps_session (bs : Bytes7 Byte) (s : State) : SessionKept s (awaitTxWrite bs s) := by
  obtain ⟨k, e, -, h⟩ | ⟨e, -, h⟩ := awaitTxWrite_cases bs s
  · rw [h]
    exact .refl _
  · rw [h]
    exact .refl _

theorem sendCommand_keeps_session (src dst : Nibble) (angle : Int) (s : State) :
    SessionKept s (sendCommand src dst angle s) := by
  by_cases ho : s.sess = .opened
  · rw [sendCommand_of_opened ho]
    exact awaitTxWrite_keeps_session _ _
  · rw [sendCommand_of_not_opened ho]
    exact .refl _

theorem decodeCycle_keeps_session (s : State) : SessionKept s (decodeCycle s).2 := by
  rw [decodeCycle_frame s]
  exact .refl _

theorem pollStatus_keeps_session (s : State) : SessionKept s (pollStatus s) := by
  by_cases ho : s.sess = .opened
  · rw [pollStatus_of_opened ho]
    exact decodeCycle_keeps_session s
  · rw [pollStatus_of_not_opened ho]
    exact .refl _

theorem whenIdle_keeps_session {s : State} {run : State → State} (h : SessionKept s (run s)) :
    SessionKept s (s.whenIdle run) := by
  cases hp : s.pending with
  | none => rwa [whenIdle_idle hp]
  | some op =>
    rw [whenIdle_busy hp]
    exact .refl _

theorem exec_keeps_session {i : Instr} {s t : State} (hexec : exec i s = .next t)
    (hopen : ∀ path rate, i ≠ .openLink path rate) (hclose : i ≠ .closeLink) : SessionKept s t := by
  cases i with
  | openLink path rate => exact absurd rfl (hopen path rate)
  | closeLink => exact absurd rfl hclose
  | sendCommand src dst angle =>
    cases hexec
    exact whenIdle_keeps_session (sendCommand_keeps_session src dst angle s)
  | pollStatus =>
    cases hexec
    exact whenIdle_keeps_session (pollStatus_keeps_session s)
  | commandFrame | statusFrame =>
    cases hexec
    exact .refl _

/-- A step that can write the session resets the block, or runs or resumes OPEN or CLOSE; every other step keeps it. -/
theorem step_writes_or_keeps_session {s t : State} (hstep : step s = .next t) :
    (fetch s = .reset ∨ (∃ path rate, fetch s = .run (.openLink path rate)) ∨ fetch s = .run .closeLink ∨
      (∃ path rate, fetch s = .resume (.linkOpen path rate)) ∨ fetch s = .resume .linkClose) ∨ SessionKept s t := by
  unfold step at hstep
  cases hfetch : fetch s <;> rw [hfetch] at hstep
  case reset => exact .inl (.inl rfl)
  case wait | refuse | noise =>
    cases hstep
    exact .inr (.refl _)
  case resume op =>
    cases op with
    | linkOpen path rate => exact .inl (.inr (.inr (.inr (.inl ⟨path, rate, rfl⟩))))
    | linkClose => exact .inl (.inr (.inr (.inr (.inr rfl))))
    | txWrite bs =>
      cases hstep
      exact .inr (awaitTxWrite_keeps_session bs s)
  case run i =>
    by_cases hopen : ∃ path rate, i = .openLink path rate
    · obtain ⟨path, rate, rfl⟩ := hopen
      exact .inl (.inr (.inl ⟨path, rate, rfl⟩))
    · by_cases hclose : i = .closeLink
      · exact .inl (.inr (.inr (.inl (congrArg _ hclose))))
      · exact .inr (exec_keeps_session (s := s.dropInput) hstep (fun path rate h => hopen ⟨path, rate, h⟩) hclose)

/-- Settles O41: a step that changes `sess` has not kept the session. -/
theorem onlyOpenAndCloseChangeTheSession : Obligations.OnlyOpenAndCloseChangeTheSession :=
  ⟨fun _ _ _ => exec_keeps_session, fun _ _ hstep hsess =>
    (step_writes_or_keeps_session hstep).resolve_right fun hkept => hsess hkept.1⟩

end Sys2Proof.Machine

/-! How long a poll may wait on the link (44_link_session.md R193): a cycle issues a first part of one row of three reads,
and the whole row bounds the wait of any part of it. -/

namespace Sys2Proof.Machine

/-- The reads of a cycle that gets as far as the body: two seeks and the body read, each with its own budget
(44_link_session.md R191, R192). -/
def State.cycleReads (s : State) (a b : ByteAnswer) (d : BlockAnswer) : List LinkCall :=
  [.rxByte s.params.tByteMs a, .rxByte s.params.tByteMs b, .rxBlock 4 s.bodyBudget d]

/-- On every path a cycle issues a first part of `State.cycleReads`; reads that it does not reach may have any answer. -/
theorem decodeCycle_issues_part_of_cycleReads (s : State) :
    ∃ cs a b d, (decodeCycle s).2.issued = s.issued ++ cs ∧ cs <+: s.cycleReads a b d := by
  obtain ⟨e, -, -, -, hissued⟩ | ⟨e, b, -, -, -, -, hissued⟩ | ⟨e, -, hsecond⟩ := decodeCycle_paths s
  · exact ⟨_, _, .timeout, .short [], hissued, [_, _], rfl⟩
  · exact ⟨_, _, .timeout, .short [], hissued, [_, _], rfl⟩
  obtain ⟨e1, -, -, -, hissued⟩ | ⟨e1, b, -, -, -, -, hissued⟩ | ⟨e1, -, hbody⟩ := hsecond
  · exact ⟨_, _, _, .short [], hissued, [_], rfl⟩
  · exact ⟨_, _, _, .short [], hissued, [_], rfl⟩
  obtain ⟨e2, bs, -, -, -, -, hissued⟩ | ⟨e2, c0, c1, c2, c3, -, -, -, hissued⟩ := hbody
  · exact ⟨_, _, _, _, hissued, [], rfl⟩
  · exact ⟨_, _, _, _, hissued, [], rfl⟩

theorem waitBound_append (cs ds : List LinkCall) : waitBound (cs ++ ds) = waitBound cs + waitBound ds := by
  simp [waitBound]

theorem waitBound_mono {cs ds : List LinkCall} (h : cs <+: ds) : waitBound cs ≤ waitBound ds := by
  obtain ⟨rest, rfl⟩ := h
  rw [waitBound_append]
  exact Nat.le_add_right _ _

theorem waitBound_cycleReads {s : State} {rate : Word32} (h : s.baud = some rate) (a b : ByteAnswer) (d : BlockAnswer) :
    waitBound (s.cycleReads a b d) = 2 * s.params.tByteMs + tBodyMs rate.toNat := by
  simp only [State.cycleReads, waitBound, bodyBudget_of_baud h, LinkCall.waitMs, List.map_cons, List.map_nil,
    List.sum_cons, List.sum_nil, Option.getD_some]
  omega

/-- Settles O27: an open poll issues what its cycle issues, a first part of two seeks and a body read; any other poll
issues nothing. -/
theorem pollWaitIsBounded : Obligations.PollWaitIsBounded := by
  refine ⟨fun s hp => ?_, by decide⟩
  by_cases ho : s.sess = .opened
  · obtain ⟨cs, a, b, d, hissued, hpart⟩ := decodeCycle_issues_part_of_cycleReads s
    refine ⟨_, cs, exec_pollStatus_of_cycle hp ho rfl, hissued, fun hclosed => absurd ho hclosed, fun rate hbaud => ?_⟩
    calc waitBound cs
      _ ≤ waitBound (s.cycleReads a b d) := waitBound_mono hpart
      _ = 2 * s.params.tByteMs + tBodyMs rate.toNat := waitBound_cycleReads hbaud a b d
  · exact ⟨_, [], exec_of_silentResponse hp ho rfl, (List.append_nil _).symm, fun _ => rfl, fun _ _ => Nat.zero_le _⟩

end Sys2Proof.Machine

/-! What a reset leaves (70_reset_and_hazards.md R260, R261). -/

namespace Sys2Proof.Machine

/-- A reset at the head of the inputs is taken at once, whatever is in progress (log entry 23). -/
theorem step_of_reset_input {s : State} {rest : List Input} (hi : s.inputs = .reset :: rest) :
    step s = .next (s.setInputs rest).blockReset := by
  simp only [step, fetch_reset hi, State.dropInput_eq, hi, List.tail_cons]

/-- Settles O54: the start state is read off, and the step of a reset is `State.blockReset`, whose value is the one
stated. -/
theorem resetSetsTheResetValues : Obligations.ResetSetsTheResetValues :=
  ⟨⟨rfl, rfl, rfl, rfl, rfl, rfl, rfl, rfl, rfl, rfl⟩, fun _ _ hi => step_of_reset_input hi⟩

end Sys2Proof.Machine

/-! The decoder and the encoder undo each other (30_encoding.md). A request word is made up of its fields, so a word
that is accepted is the word of the instruction read from it; a frame that is accepted has been laid out from the fields
read from it, with the checksum of its payload. -/

namespace Sys2Proof.Machine

/-! ### The fields of a request word -/

theorem reqOp_sendWord (src dst : Nibble) (angle : Int) : reqOp (sendWord src dst angle) = 0x03#8 := by
  have hs := src.isLt
  apply BitVec.eq_of_toNat_eq
  rw [reqOp_toNat, sendWord_toNat, BitVec.toNat_ofNat]
  omega

theorem reqSrc_sendWord (src dst : Nibble) (angle : Int) : reqSrc (sendWord src dst angle) = src := by
  have hs := src.isLt
  apply BitVec.eq_of_toNat_eq
  rw [reqSrc_toNat, sendWord_toNat]
  omega

theorem reqDst_sendWord (src dst : Nibble) (angle : Int) : reqDst (sendWord src dst angle) = dst := by
  have hs := src.isLt
  have hd := dst.isLt
  apply BitVec.eq_of_toNat_eq
  rw [reqDst_toNat, sendWord_toNat]
  omega

theorem reqAngle_sendWord (src dst : Nibble) (angle : Int) : reqAngle (sendWord src dst angle) = word16 angle := by
  have hs := src.isLt
  have hd := dst.isLt
  apply BitVec.eq_of_toNat_eq
  rw [reqAngle_toNat, sendWord_toNat]
  omega

/-- A word whose operation is SEND_COMMAND is the one its fields make up. -/
theorem sendWord_of_fields {w : Word32} (hop : reqOp w = 0x03#8) :
    sendWord (reqSrc w) (reqDst w) (int16 (reqAngle w)) = w := by
  have hlow : w.toNat % 256 = 3 := by rw [← reqOp_toNat, hop]; rfl
  apply BitVec.eq_of_toNat_eq
  rw [sendWord_toNat, word16_int16, reqSrc_toNat, reqDst_toNat, reqAngle_toNat]
  omega

/-- A word with nothing above its operation is its operation. -/
theorem eq_setWidth_of_reqReserved {w : Word32} (hres : reqReserved w = 0#24) : w = (reqOp w).setWidth 32 := by
  have hhigh : w.toNat / 256 = 0 := by rw [← reqReserved_toNat, hres]; rfl
  have hw := w.isLt
  apply BitVec.eq_of_toNat_eq
  rw [BitVec.toNat_setWidth, reqOp_toNat]
  omega

theorem reqOp_eq_ofNat_iff {w : Word32} {n : Nat} (hn : n < 256) : reqOp w = BitVec.ofNat 8 n ↔ w.toNat % 256 = n := by
  rw [← BitVec.toNat_inj, reqOp_toNat, BitVec.toNat_ofNat, Nat.mod_eq_of_lt (a := n) hn]

theorem reqReserved_eq_zero_iff {w : Word32} : reqReserved w = 0#24 ↔ w.toNat / 256 = 0 := by
  rw [← BitVec.toNat_inj, reqReserved_toNat]
  rfl

/-! ### The decoder of request words, operation by operation -/

section Request
variable {w : Word32} {path : Path} {baud : Word32}

theorem decodeRequest_open (h : reqOp w = 0x01#8) :
    decodeRequest w path baud = plainRequest w (.openLink path baud) := if_pos h

theorem decodeRequest_close (h : reqOp w = 0x02#8) : decodeRequest w path baud = plainRequest w .closeLink := by
  simp [decodeRequest, h]

theorem decodeRequest_send (h : reqOp w = 0x03#8) :
    decodeRequest w path baud = .instr (.sendCommand (reqSrc w) (reqDst w) (int16 (reqAngle w))) := by
  simp [decodeRequest, h]

theorem decodeRequest_poll (h : reqOp w = 0x04#8) : decodeRequest w path baud = plainRequest w .pollStatus := by
  simp [decodeRequest, h]

theorem decodeRequest_other (h1 : reqOp w ≠ 0x01#8) (h2 : reqOp w ≠ 0x02#8) (h3 : reqOp w ≠ 0x03#8)
    (h4 : reqOp w ≠ 0x04#8) : decodeRequest w path baud = .reserved .reservedOp := by
  simp [decodeRequest, h1, h2, h3, h4]

theorem plainRequest_eq_instr_iff {i j : Instr} : plainRequest w i = .instr j ↔ reqReserved w = 0#24 ∧ j = i := by
  by_cases h : reqReserved w = 0#24 <;> simp [plainRequest, h, eq_comm]

theorem plainRequest_eq_reserved_iff {i : Instr} {r : RefusalReason} :
    plainRequest w i = .reserved r ↔ r = .reservedBits ∧ reqReserved w ≠ 0#24 := by
  by_cases h : reqReserved w = 0#24 <;> simp [plainRequest, h, eq_comm]

/-- The four operations, or none of them. -/
theorem reqOp_cases (w : Word32) : reqOp w = 0x01#8 ∨ reqOp w = 0x02#8 ∨ reqOp w = 0x03#8 ∨ reqOp w = 0x04#8 ∨
    (reqOp w ≠ 0x01#8 ∧ reqOp w ≠ 0x02#8 ∧ reqOp w ≠ 0x03#8 ∧ reqOp w ≠ 0x04#8) := by
  by_cases h1 : reqOp w = 0x01#8
  · exact .inl h1
  by_cases h2 : reqOp w = 0x02#8
  · exact .inr (.inl h2)
  by_cases h3 : reqOp w = 0x03#8
  · exact .inr (.inr (.inl h3))
  by_cases h4 : reqOp w = 0x04#8
  · exact .inr (.inr (.inr (.inl h4)))
  · exact .inr (.inr (.inr (.inr ⟨h1, h2, h3, h4⟩)))

/-- The request words that are accepted, and what each stands for. -/
theorem decodeRequest_eq_instr {i : Instr} (h : decodeRequest w path baud = .instr i) :
    (w = 1#32 ∧ i = .openLink path baud) ∨ (w = 2#32 ∧ i = .closeLink) ∨
    (w = sendWord (reqSrc w) (reqDst w) (int16 (reqAngle w)) ∧
      i = .sendCommand (reqSrc w) (reqDst w) (int16 (reqAngle w))) ∨ (w = 4#32 ∧ i = .pollStatus) := by
  obtain hop | hop | hop | hop | ⟨h1, h2, h3, h4⟩ := reqOp_cases w
  · rw [decodeRequest_open hop, plainRequest_eq_instr_iff] at h
    exact .inl ⟨by rw [eq_setWidth_of_reqReserved h.1, hop]; rfl, h.2⟩
  · rw [decodeRequest_close hop, plainRequest_eq_instr_iff] at h
    exact .inr (.inl ⟨by rw [eq_setWidth_of_reqReserved h.1, hop]; rfl, h.2⟩)
  · rw [decodeRequest_send hop] at h
    cases h
    exact .inr (.inr (.inl ⟨(sendWord_of_fields hop).symm, rfl⟩))
  · rw [decodeRequest_poll hop, plainRequest_eq_instr_iff] at h
    exact .inr (.inr (.inr ⟨by rw [eq_setWidth_of_reqReserved h.1, hop]; rfl, h.2⟩))
  · rw [decodeRequest_other h1 h2 h3 h4] at h
    cases h

/-- The request words that are refused, each with its reason (30_encoding.md R80). -/
theorem decodeRequest_eq_reserved_iff {r : RefusalReason} : decodeRequest w path baud = .reserved r ↔
    (r = .reservedOp ∧ (w.toNat % 256 = 0 ∨ 5 ≤ w.toNat % 256)) ∨
    (r = .reservedBits ∧ (w.toNat % 256 = 1 ∨ w.toNat % 256 = 2 ∨ w.toNat % 256 = 4) ∧ w.toNat / 256 ≠ 0) := by
  have hn1 : reqOp w = 0x01#8 ↔ w.toNat % 256 = 1 := reqOp_eq_ofNat_iff (by decide)
  have hn2 : reqOp w = 0x02#8 ↔ w.toNat % 256 = 2 := reqOp_eq_ofNat_iff (by decide)
  have hn3 : reqOp w = 0x03#8 ↔ w.toNat % 256 = 3 := reqOp_eq_ofNat_iff (by decide)
  have hn4 : reqOp w = 0x04#8 ↔ w.toNat % 256 = 4 := reqOp_eq_ofNat_iff (by decide)
  obtain hop | hop | hop | hop | ⟨h1, h2, h3, h4⟩ := reqOp_cases w
  · simp [decodeRequest_open hop, plainRequest_eq_reserved_iff, reqReserved_eq_zero_iff, hn1.1 hop]
  · simp [decodeRequest_close hop, plainRequest_eq_reserved_iff, reqReserved_eq_zero_iff, hn2.1 hop]
  · simp [decodeRequest_send hop, hn3.1 hop]
  · simp [decodeRequest_poll hop, plainRequest_eq_reserved_iff, reqReserved_eq_zero_iff, hn4.1 hop]
  · rw [decodeRequest_other h1 h2 h3 h4, Decoded.reserved.injEq, eq_comm]
    rw [Ne, hn1] at h1
    rw [Ne, hn2] at h2
    rw [Ne, hn3] at h3
    rw [Ne, hn4] at h4
    have hlow : w.toNat % 256 = 0 ∨ 5 ≤ w.toNat % 256 := by omega
    simp [h1, h2, h4, hlow]

end Request

/-! ### The decoder of frames -/

/-- A command frame that parses was laid out from the fields read from it, with a legal angle and its checksum. -/
theorem layCommand_of_parseCommand {p : Params} {f : Bytes7 Byte} {fr : CommandFrame}
    (h : parseCommand p f = .decoded fr) :
    f = layCommand p fr.src fr.dst fr.angle fr.ck ∧ angleInRange fr.angle = true ∧ fr.ck = commandCk p fr.angle := by
  by_cases hm : f.b0 = loByte p.magic ∧ f.b1 = hiByte p.magic
  · obtain ⟨h0, h1⟩ := hm
    rw [parseCommand_of_magic h0 h1] at h
    split at h
    · rename_i hck
      cases h
      refine ⟨?_, angleInRange_int16 _, ?_⟩
      · simp [layCommand, packHeader_headerSrc_headerDst, ← h0, ← h1]
      · simp [commandCk, commandPayload, le16, hck]
    · cases h
  · have hmis : f.b0 ≠ magicWire p 0#1 ∨ f.b1 ≠ magicWire p 1#1 := not_and_or.1 hm
    rw [parseCommand, if_pos hmis] at h
    cases h

/-- A status frame that parses was laid out from the fields read from it, with its checksum. -/
theorem layStatus_of_parseStatus {p : Params} {f : Bytes6 Byte} {fr : StatusFrame}
    (h : parseStatus p f = .decoded fr) :
    f = layStatus p fr.src fr.dst fr.status fr.ck ∧ fr.ck = statusCk p fr.status := by
  by_cases h0 : f.b0 = loByte p.magic
  · by_cases h1 : f.b1 = hiByte p.magic
    · rw [parseStatus_of_magic h0 h1] at h
      obtain ⟨hck, hv⟩ | ⟨-, hv⟩ := statusVerdict_cases p f.b2 f.b3 f.b4 f.b5
      · rw [hv] at h
        cases h
        exact ⟨by simp [layStatus, packHeader_headerSrc_headerDst, ← h0, ← h1], hck⟩
      · rw [hv] at h
        cases h
    · rw [parseStatus_of_second_mismatch h1] at h
      cases h
  · rw [parseStatus_of_first_mismatch h0] at h
    cases h

theorem decodeCommandFrame_of_decoded {p : Params} {f : Bytes7 Byte} {fr : CommandFrame}
    (h : parseCommand p f = .decoded fr) :
    decodeCommandFrame p (bytes7List f) = .instr (.commandFrame fr.src fr.dst fr.angle fr.ck) := by
  simp [decodeCommandFrame, bytes7List, h]

theorem decodeStatusFrame_of_decoded {p : Params} {f : Bytes6 Byte} {fr : StatusFrame}
    (h : parseStatus p f = .decoded fr) :
    decodeStatusFrame p (bytes6List f) = .instr (.statusFrame fr.src fr.dst fr.status fr.ck) := by
  simp [decodeStatusFrame, bytes6List, h]

/-- The bytes that are accepted as a command frame are seven, and parse. -/
theorem decodeCommandFrame_eq_instr {p : Params} {bs : List Byte} {i : Instr} (h : decodeCommandFrame p bs = .instr i) :
    ∃ f fr, bs = bytes7List f ∧ parseCommand p f = .decoded fr ∧ i = .commandFrame fr.src fr.dst fr.angle fr.ck := by
  unfold decodeCommandFrame at h
  split at h
  · rename_i b0 b1 b2 b3 b4 b5 b6
    cases hp : parseCommand p ⟨b0, b1, b2, b3, b4, b5, b6⟩ with
    | decoded fr =>
      rw [hp] at h
      cases h
      exact ⟨_, fr, rfl, hp, rfl⟩
    | failed r =>
      rw [hp] at h
      cases h
  · cases h

/-- The bytes that are accepted as a status frame are six, and parse. -/
theorem decodeStatusFrame_eq_instr {p : Params} {bs : List Byte} {i : Instr} (h : decodeStatusFrame p bs = .instr i) :
    ∃ f fr, bs = bytes6List f ∧ parseStatus p f = .decoded fr ∧ i = .statusFrame fr.src fr.dst fr.status fr.ck := by
  unfold decodeStatusFrame at h
  split at h
  · rename_i b0 b1 b2 b3 b4 b5
    cases hp : parseStatus p ⟨b0, b1, b2, b3, b4, b5⟩ with
    | decoded fr =>
      rw [hp] at h
      cases h
      exact ⟨_, fr, rfl, hp, rfl⟩
    | failed r =>
      rw [hp] at h
      cases h
  · cases h

/-- An accepted frame is well formed and has the bytes of its encoding, and a frame is not a host operation. -/
theorem decode_wire_eq_instr {p : Params} {k : FrameKind} {bs : List Byte} {i : Instr}
    (h : decode p (.wire k bs) = .instr i) :
    i.wellFormed p = true ∧ encode p i = .wire k bs ∧ Instr.isHostOperation i = false := by
  cases k with
  | command =>
    obtain ⟨f, fr, rfl, hp, rfl⟩ := decodeCommandFrame_eq_instr h
    obtain ⟨hf, hangle, hck⟩ := layCommand_of_parseCommand hp
    exact ⟨by simp [Instr.wellFormed, hangle, ← hck], by rw [encode, ← hf], rfl⟩
  | status =>
    obtain ⟨f, fr, rfl, hp, rfl⟩ := decodeStatusFrame_eq_instr h
    obtain ⟨hf, hck⟩ := layStatus_of_parseStatus hp
    exact ⟨decide_eq_true hck, by rw [encode, ← hf], rfl⟩

/-! ### The obligations -/

theorem decode_encode_sendCommand (p : Params) (src dst : Nibble) {angle : Int} (hlo : -32768 ≤ angle)
    (hhi : angle ≤ 32767) : decode p (encode p (.sendCommand src dst angle)) = .instr (.sendCommand src dst angle) :=
  calc decode p (encode p (.sendCommand src dst angle))
    _ = .instr (.sendCommand (reqSrc (sendWord src dst angle)) (reqDst (sendWord src dst angle))
          (int16 (reqAngle (sendWord src dst angle)))) := decodeRequest_send (reqOp_sendWord src dst angle)
    _ = .instr (.sendCommand src dst angle) := by
      rw [reqSrc_sendWord, reqDst_sendWord, reqAngle_sendWord, int16_word16 hlo hhi]

/-- Settles O1, constructor by constructor: a word gives its fields back, and a well-formed frame carries the checksum
that its parser asks for. -/
theorem decodeOfEncodeGivesTheInstruction : Obligations.DecodeOfEncodeGivesTheInstruction := by
  intro p i hwf
  cases i with
  | openLink path baud => exact (decodeRequest_open (by decide)).trans (plainRequest_eq_instr_iff.2 ⟨by decide, rfl⟩)
  | closeLink => exact (decodeRequest_close (by decide)).trans (plainRequest_eq_instr_iff.2 ⟨by decide, rfl⟩)
  | sendCommand src dst angle =>
    obtain ⟨hlo, hhi⟩ := (angleInRange_iff angle).1 hwf
    exact decode_encode_sendCommand p src dst hlo hhi
  | pollStatus => exact (decodeRequest_poll (by decide)).trans (plainRequest_eq_instr_iff.2 ⟨by decide, rfl⟩)
  | commandFrame src dst angle ck =>
    obtain ⟨hangle, hck⟩ := Bool.and_eq_true_iff.1 hwf
    obtain ⟨hlo, hhi⟩ := (angleInRange_iff angle).1 hangle
    obtain rfl : ck = commandCk p angle := of_decide_eq_true hck
    exact decodeCommandFrame_of_decoded (parseCommand_encodeCommand p src dst hlo hhi)
  | statusFrame src dst status ck =>
    obtain rfl : ck = statusCk p status := of_decide_eq_true hwf
    exact decodeStatusFrame_of_decoded (parseStatus_encodeStatus p src dst status)

/-- Settles O2: an accepted word is one of the four that the encoder makes, and an accepted frame was laid out from its
own fields. -/
theorem encodeOfDecodeGivesTheBits : Obligations.EncodeOfDecodeGivesTheBits := by
  refine ⟨fun p w path baud i h => ?_, fun p k bs i h => (decode_wire_eq_instr h).2.1⟩
  obtain ⟨rfl, rfl⟩ | ⟨rfl, rfl⟩ | ⟨hw, rfl⟩ | ⟨rfl, rfl⟩ := decodeRequest_eq_instr h
  · exact ⟨⟨path, baud, rfl⟩, by rintro q r ⟨rfl, rfl⟩; exact ⟨rfl, rfl⟩⟩
  · exact ⟨⟨_, _, rfl⟩, by rintro q r ⟨⟩⟩
  · exact ⟨⟨[], 0, congrArg (Encoded.request · [] 0) hw.symm⟩, by rintro q r ⟨⟩⟩
  · exact ⟨⟨_, _, rfl⟩, by rintro q r ⟨⟩⟩

/-- Settles O3: of the requests only SEND_COMMAND has a check to meet, and its angle is read from 16 bits. -/
theorem decodedIsWellFormed : Obligations.DecodedIsWellFormed := by
  intro p e i h
  cases e with
  | request w path baud =>
    obtain ⟨-, rfl⟩ | ⟨-, rfl⟩ | ⟨-, rfl⟩ | ⟨-, rfl⟩ := decodeRequest_eq_instr h
    · rfl
    · rfl
    · exact angleInRange_int16 _
    · rfl
  | wire k bs => exact (decode_wire_eq_instr h).1

/-- Two's complement of a request's angle field, written with the word's value. -/
theorem int16_reqAngle (w : Word32) : int16 (reqAngle w) =
    if w.toNat / 65536 < 32768 then (w.toNat / 65536 : Int) else (w.toNat / 65536 : Int) - 65536 := by
  rw [int16, BitVec.toInt_eq_toNat_cond, reqAngle_toNat]
  split <;> split <;> omega

/-- Settles O5: the low byte picks the operation, and the fields have the values of their bits. -/
theorem sendWordFields : Obligations.SendWordFields := fun _ w _ _ hlow =>
  ⟨_, _, _, decodeRequest_send ((reqOp_eq_ofNat_iff (by decide)).2 hlow), reqSrc_toNat w, reqDst_toNat w,
    int16_reqAngle w⟩

/-- Settles O6, by evaluation of the seven samples. -/
theorem sampleEncodingsDecode : Obligations.SampleEncodingsDecode := by
  unfold Obligations.SampleEncodingsDecode
  decide +kernel

end Sys2Proof.Machine

/-! CHECKSUM over whole payloads (41_checksum.md): the register's update is linear over GF(2) in the register and the
byte together, so CHECKSUM is affine (R105), and a zero register stays zero under zero bytes (70_reset_and_hazards.md
R272). -/

namespace Sys2Proof.Machine

/-! ### Linearity -/

theorem reflect_xor {n : Nat} (x y : BitVec n) : reflect (x ^^^ y) = reflect x ^^^ reflect y := by
  refine BitVec.eq_of_getMsbD_eq fun i _ => ?_
  simp only [reflect, BitVec.getMsbD_reverse, BitVec.getLsbD_xor, BitVec.getMsbD_xor]

theorem crcInput_xor (c : CrcParams) (a b : Byte) : crcInput c (a ^^^ b) = crcInput c a ^^^ crcInput c b := by
  unfold crcInput
  cases c.refin
  · rfl
  · exact reflect_xor a b

theorem crcByte_xor (c : CrcParams) (reg reg' : Word16) (a b : Byte) :
    crcByte c (reg ^^^ reg') (a ^^^ b) = crcByte c reg a ^^^ crcByte c reg' b := by
  have hbyte : fromLe16 0#8 (crcInput c (a ^^^ b)) = fromLe16 0#8 (crcInput c a) ^^^ fromLe16 0#8 (crcInput c b) := by
    rw [crcInput_xor, fromLe16_xor, BitVec.xor_self]
  simp only [crcByte_eq_crcShift, hbyte, ← crcShift_xor]
  congr 1
  ac_rfl

/-- The register after two payloads of one length, from the XOR of two registers. -/
theorem foldl_crcByte_xor (c : CrcParams) {x y : List Byte} (hlen : x.length = y.length) (reg reg' : Word16) :
    (List.zipWith (· ^^^ ·) x y).foldl (crcByte c) (reg ^^^ reg') =
      x.foldl (crcByte c) reg ^^^ y.foldl (crcByte c) reg' := by
  induction x generalizing y reg reg' with
  | nil =>
    obtain rfl := List.length_eq_zero_iff.1 hlen.symm
    rfl
  | cons a x ih =>
    cases y with
    | nil => cases hlen
    | cons b y =>
      simp only [List.zipWith_cons_cons, List.foldl_cons, crcByte_xor]
      exact ih (Nat.succ.inj hlen) _ _

/-- An odd number of copies of `k` is one copy. -/
theorem xor_three_of_common (x y z k : Word16) : x ^^^ y ^^^ z ^^^ k = (x ^^^ k) ^^^ (y ^^^ k) ^^^ (z ^^^ k) :=
  calc x ^^^ y ^^^ z ^^^ k = x ^^^ y ^^^ z ^^^ k ^^^ (k ^^^ k) := by simp
    _ = (x ^^^ k) ^^^ (y ^^^ k) ^^^ (z ^^^ k) := by ac_rfl

/-- Of three registers the two surplus output XORs cancel. -/
theorem crcFinal_xor (c : CrcParams) (x y z : Word16) :
    crcFinal c (x ^^^ y ^^^ z) = crcFinal c x ^^^ crcFinal c y ^^^ crcFinal c z := by
  unfold crcFinal
  cases c.refout
  · exact xor_three_of_common x y z c.xorout
  · simp only [if_true, reflect_xor]
    exact xor_three_of_common _ _ _ _

/-- Settles O8: the initial value is the XOR of three of itself, so three runs of the register make up the one. -/
theorem checksumIsAffine : Obligations.ChecksumIsAffine := by
  intro c x y z hxy hyz
  have hlen : (List.zipWith (· ^^^ ·) x y).length = z.length := by simp [hxy, hyz]
  have hinit : c.init ^^^ c.init ^^^ c.init = c.init := by simp
  unfold checksum
  rw [← crcFinal_xor, ← foldl_crcByte_xor c hxy, ← foldl_crcByte_xor c hlen, hinit]

/-! ### Zeros -/

theorem crcByte_zero (c : CrcParams) : crcByte c 0 0 = 0 := by
  have h := crcByte_xor c 0 0 0 0
  rwa [BitVec.xor_self, BitVec.xor_self, BitVec.xor_self] at h

theorem crcFinal_zero {c : CrcParams} (hout : c.xorout = 0) : crcFinal c 0 = 0 := by
  unfold crcFinal
  rw [hout]
  cases c.refout <;> decide

theorem checksum_replicate_zero {c : CrcParams} (hinit : c.init = 0) (hout : c.xorout = 0) (n : Nat) :
    checksum c (List.replicate n 0) = 0 := by
  have hreg : (List.replicate n (0 : Byte)).foldl (crcByte c) 0 = 0 := by
    induction n with
    | zero => rfl
    | succ n ih => rw [List.replicate_succ, List.foldl_cons, crcByte_zero, ih]
  rw [checksum, hinit, hreg, crcFinal_zero hout]

theorem headerSrc_zero (p : Params) : headerSrc p 0 = 0 := by
  unfold headerSrc
  cases p.hdrSrcLow <;> decide

theorem headerDst_zero (p : Params) : headerDst p 0 = 0 := by
  unfold headerDst
  cases p.hdrSrcLow <;> decide

/-- Settles O11: a line of zeros carries the checksum 0 that a zero-initialised set asks for. -/
theorem zeroInitialisedVariants : Obligations.ZeroInitialisedVariants := by
  refine ⟨fun c hinit hout n => checksum_replicate_zero hinit hout n, fun p hinit hout => ?_, ⟨rfl, rfl⟩, ⟨rfl, rfl⟩,
    by decide +kernel⟩
  have hck : statusCk p 0 = 0 := checksum_replicate_zero hinit hout 1
  have hfield : fromLe16 0 0 = statusCk p 0 := by
    rw [hck]
    decide
  calc parseStatus p ⟨loByte p.magic, hiByte p.magic, 0, 0, 0, 0⟩
    _ = .decoded ⟨headerSrc p 0, headerDst p 0, 0, statusCk p 0⟩ :=
      (parseStatus_of_magic rfl rfl).trans (statusVerdict_of_checksum hfield)
    _ = .decoded ⟨0, 0, 0, 0⟩ := by rw [headerSrc_zero, headerDst_zero, hck]

/-! ### Fixed inputs -/

/-- Settles O9: no byte enters the register, so the initial value is finished as it is. -/
theorem checksumOfNothing : Obligations.ChecksumOfNothing := ⟨fun _ => rfl, by decide +kernel⟩

/-- Settles O10, by evaluation of the five named sets. -/
theorem catalogueCheckValues : Obligations.CatalogueCheckValues := by
  unfold Obligations.CatalogueCheckValues
  decide +kernel

end Sys2Proof.Machine

/-! Single-bit flips of an encoded frame (42_frame_codec.md R128, 41_checksum.md R106). Every byte of a frame is checked
but the header: the magic by comparison, the checksum field against the payload, and the payload, for an odd polynomial,
against the checksum field. -/

namespace Sys2Proof.Machine

/-- A flipped bit makes another byte. -/
theorem flip_ne (b : Byte) {k : Nat} (hk : k < 8) : b ^^^ 1#8 <<< k ≠ b := by
  have hbit : (1#8 : Byte) <<< k ≠ 0#8 := by
    intro h
    have h1 := congrArg (BitVec.getLsbD · k) h
    simp [hk] at h1
  exact fun h => hbit (by simpa using h)

theorem checksumField_ne {lo hi : Byte} {ck : Word16} (h : lo ≠ loByte ck ∨ hi ≠ hiByte ck) : fromLe16 lo hi ≠ ck := by
  rintro rfl
  simp at h

/-- Behind the magic a command frame with its payload's checksum is delivered, whatever its header. -/
theorem parseCommand_of_checksum {p : Params} {f : Bytes7 Byte} {a : Int} {ck : Word16} (h0 : f.b0 = loByte p.magic)
    (h1 : f.b1 = hiByte p.magic) (hangle : int16 (fromLe16 f.b3 f.b4) = a) (hfield : fromLe16 f.b5 f.b6 = ck)
    (hck : ck = checksum p.crc [f.b3, f.b4]) :
    parseCommand p f = .decoded ⟨headerSrc p f.b2, headerDst p f.b2, a, ck⟩ := by
  rw [← hfield] at hck ⊢
  rw [parseCommand_of_magic h0 h1, if_pos hck, hangle]

/-- Behind the magic a command frame whose checksum field is not its payload's checksum fails with both. -/
theorem parseCommand_of_checksum_ne {p : Params} {f : Bytes7 Byte} {ck : Word16} (h0 : f.b0 = loByte p.magic)
    (h1 : f.b1 = hiByte p.magic) (hfield : fromLe16 f.b5 f.b6 = ck) (hck : ck ≠ checksum p.crc [f.b3, f.b4]) :
    parseCommand p f = .failed (.checksumMismatch ck (checksum p.crc [f.b3, f.b4])) := by
  rw [← hfield] at hck ⊢
  exact (parseCommand_of_magic h0 h1).trans (if_neg hck)

theorem parseCommand_of_magic_ne {p : Params} {f : Bytes7 Byte} (h : f.b0 ≠ loByte p.magic ∨ f.b1 ≠ hiByte p.magic) :
    parseCommand p f = .failed .magicMismatch :=
  if_pos h

/-- Behind the magic a status frame whose checksum field is not its status byte's checksum fails with both. -/
theorem parseStatus_of_checksum_ne {p : Params} {f : Bytes6 Byte} {ck : Word16} (h0 : f.b0 = loByte p.magic)
    (h1 : f.b1 = hiByte p.magic) (hfield : fromLe16 f.b4 f.b5 = ck) (hck : ck ≠ statusCk p f.b3) :
    parseStatus p f = .failed (.checksumMismatch ck (statusCk p f.b3)) := by
  obtain ⟨heq, -⟩ | ⟨-, hv⟩ := statusVerdict_cases p f.b2 f.b3 f.b4 f.b5
  · exact absurd (hfield.symm.trans heq) hck
  · rw [parseStatus_of_magic h0 h1, hv, hfield, statusCk]

/-- A payload changed by a flip does not have the checksum of the angle. -/
theorem commandCk_ne_of_payload_ne {p : Params} (hodd : p.crc.poly.getLsbD 0 = true) {a : Int} {lo hi : Byte}
    (h : lo ≠ loByte (word16 a) ∨ hi ≠ hiByte (word16 a)) : commandCk p a ≠ checksum p.crc [lo, hi] := by
  intro hck
  obtain ⟨hlo, hhi⟩ := checksum_two_inj hodd hck
  exact h.elim (fun hne => hne hlo.symm) fun hne => hne hhi.symm

/-- Settles O14: each flipped byte meets its own check, and no check looks at the header. -/
theorem commandFrameBitFlips : Obligations.CommandFrameBitFlips := by
  intro p s d a k hlo hhi hk f m
  have hflip (b : Byte) : b ^^^ m ≠ b := flip_ne b hk
  have hfield : fromLe16 f.b5 f.b6 = commandCk p a := fromLe16_bytes _
  refine ⟨fun hodd => ⟨?_, ?_⟩, ?_, ?_, ?_, ?_, ?_⟩
  · exact ⟨_, parseCommand_of_checksum_ne rfl rfl hfield (commandCk_ne_of_payload_ne hodd (.inl (hflip _)))⟩
  · exact ⟨_, parseCommand_of_checksum_ne rfl rfl hfield (commandCk_ne_of_payload_ne hodd (.inr (hflip _)))⟩
  · exact ⟨_, parseCommand_of_checksum_ne rfl rfl rfl (checksumField_ne (.inl (hflip _)))⟩
  · exact ⟨_, parseCommand_of_checksum_ne rfl rfl rfl (checksumField_ne (.inr (hflip _)))⟩
  · have hangle : int16 (fromLe16 f.b3 f.b4) = a := (congrArg int16 (fromLe16_bytes _)).trans (int16_word16 hlo hhi)
    exact parseCommand_of_checksum rfl rfl hangle hfield rfl
  · exact parseCommand_of_magic_ne (.inl (hflip _))
  · exact parseCommand_of_magic_ne (.inr (hflip _))

/-- Settles O15, as for a command frame. -/
theorem statusFrameBitFlips : Obligations.StatusFrameBitFlips := by
  intro p s d x k hk f m
  have hflip (b : Byte) : b ^^^ m ≠ b := flip_ne b hk
  have hfield : fromLe16 f.b4 f.b5 = statusCk p x := fromLe16_bytes _
  refine ⟨fun hodd => ?_, ?_, ?_, ?_, ?_, ?_⟩
  · exact ⟨_, parseStatus_of_checksum_ne rfl rfl hfield fun h => hflip x (checksum_one_inj hodd h).symm⟩
  · exact ⟨_, parseStatus_of_checksum_ne rfl rfl rfl (checksumField_ne (.inl (hflip _)))⟩
  · exact ⟨_, parseStatus_of_checksum_ne rfl rfl rfl (checksumField_ne (.inr (hflip _)))⟩
  · exact (parseStatus_of_magic rfl rfl).trans (statusVerdict_of_checksum hfield)
  · exact parseStatus_of_first_mismatch (hflip _)
  · exact parseStatus_of_second_mismatch (hflip _)

end Sys2Proof.Machine

/-! The decode cycle: it is five transitions of the table (43_resync_decoder.md R151, R159), and it fails as R154, R155
and R165 say. -/

namespace Sys2Proof.Machine

/-! ### The transition table -/

theorem runCycle_of_go {s t : State} (h : cycleStep s = .go t) (n : Nat) : runCycle (n + 1) s = runCycle n t := by
  rw [runCycle, h]

theorem runCycle_of_stop {s t : State} {o : FrameOutcome StatusFrame} (h : cycleStep s = .stop o t) (n : Nat) :
    runCycle (n + 1) s = .stop o t := by
  rw [runCycle, h]

theorem cycleStep_of_seek {s : State} (h : s.decState = .seek) : cycleStep s = seekStep s := by
  rw [cycleStep, h]

theorem cycleStep_of_readBody {s : State} (h : s.decState = .readBody) : cycleStep s = readBodyStep s := by
  rw [cycleStep, h]

theorem cycleStep_of_validate {s : State} (h : s.decState = .validate) :
    cycleStep s = .stop (validateStep s).1 (validateStep s).2 := by
  rw [cycleStep, h]

/-- SEEK goes on from the first magic byte to the second, and from the second to the body
(43_resync_decoder.md R153). -/
theorem seekStep_go {s t : State} (h : seekStep s = .go t) :
    (s.seekIdx = 0#1 ∧ t.decState = .seek ∧ t.seekIdx = 1#1) ∨ (s.seekIdx = 1#1 ∧ t.decState = .readBody) := by
  rcases hrx : s.env.takeRx with ⟨x, e⟩
  cases x with
  | gap =>
    rw [seekStep_gap hrx] at h
    cases h
  | byte b =>
    by_cases hb : b = magicWire s.params s.seekIdx
    · rcases BitVec.eq_zero_or_eq_one s.seekIdx with hi | hi
      · rw [seekStep_first hrx hi (hi ▸ hb)] at h
        cases h
        exact .inl ⟨hi, rfl, rfl⟩
      · rw [seekStep_second hrx hi (hi ▸ hb)] at h
        cases h
        exact .inr ⟨hi, rfl⟩
    · rw [seekStep_mismatch hrx hb] at h
      cases h

/-- READ_BODY goes on to VALIDATE (43_resync_decoder.md R155). -/
theorem readBodyStep_go {s t : State} (h : readBodyStep s = .go t) : t.decState = .validate := by
  unfold readBodyStep at h
  split at h
  · cases h
    rfl
  · cases h

/-- The rest of a cycle is the transitions that are left, if it is so from wherever a step goes on to. -/
theorem runCycle_thenDo {n : Nat} {s : State} {k : State → FrameOutcome StatusFrame × State}
    (hk : ∀ t, cycleStep s = .go t → runCycle n t = .stop (k t).1 (k t).2) :
    runCycle (n + 1) s = .stop ((cycleStep s).thenDo k).1 ((cycleStep s).thenDo k).2 := by
  cases h : cycleStep s with
  | go t => rw [runCycle_of_go h, hk t h, thenDo_go]
  | stop o t => rw [runCycle_of_stop h, thenDo_stop]

theorem runCycle_afterMagic {s : State} (h : s.decState = .readBody) :
    runCycle 2 s = .stop (afterMagic s).1 (afterMagic s).2 := by
  have hbody := cycleStep_of_readBody h
  rw [afterMagic, ← hbody]
  refine runCycle_thenDo fun t ht => ?_
  exact runCycle_of_stop (cycleStep_of_validate (readBodyStep_go (hbody.symm.trans ht))) 0

theorem runCycle_second_seek {s : State} (h : s.decState = .seek) (hi : s.seekIdx = 1#1) :
    runCycle 3 s = .stop ((seekStep s).thenDo afterMagic).1 ((seekStep s).thenDo afterMagic).2 := by
  have hseek := cycleStep_of_seek h
  rw [← hseek]
  refine runCycle_thenDo fun t ht => ?_
  obtain ⟨h0, -, -⟩ | ⟨-, hbody⟩ := seekStep_go (hseek.symm.trans ht)
  · rw [h0] at hi
    cases hi
  · exact runCycle_afterMagic hbody

/-- Settles O16: each transition goes on to the state from which the table takes the next one. -/
theorem decodeCycleRunsTheTransitionTable : Obligations.DecodeCycleRunsTheTransitionTable := by
  intro s i
  have henter : runCycle 5 (s.setDec .idle i) = runCycle 4 s.enterCycle := runCycle_of_go rfl 4
  have hseek : cycleStep s.enterCycle = seekStep s.enterCycle := cycleStep_of_seek rfl
  rw [henter, decodeCycle, ← hseek]
  refine runCycle_thenDo fun t ht => ?_
  obtain ⟨-, hstate, hidx⟩ | ⟨h1, -⟩ := seekStep_go (hseek.symm.trans ht)
  · exact runCycle_second_seek hstate hidx
  · cases h1

/-! ### How a cycle fails -/

theorem statusVerdict_ne_timeout (p : Params) (c0 c1 c2 c3 : Byte) :
    statusVerdict p c0 c1 c2 c3 ≠ .failed .timeout := by
  obtain ⟨-, hv⟩ | ⟨-, hv⟩ := statusVerdict_cases p c0 c1 c2 c3 <;> simp [hv]

/-- Settles O19, path by path: only the two paths on which a seek meets a silence time out. -/
theorem timeoutExactlyOnSilenceBeforeMismatch : Obligations.TimeoutExactlyOnSilenceBeforeMismatch := by
  intro s
  obtain ⟨e, h, hout, -⟩ | ⟨e, b, h, hb, hout, -⟩ | ⟨e, h, hsecond⟩ := decodeCycle_paths s
  · simp [hout, h]
  · simp [hout, h, hb]
  obtain ⟨e1, h1, hout, -⟩ | ⟨e1, b, h1, -, hout, -⟩ | ⟨e1, h1, hbody⟩ := hsecond
  · simp [hout, h, h1]
  · simp [hout, h, h1]
  obtain ⟨e2, bs, -, -, hout, -⟩ | ⟨e2, c0, c1, c2, c3, -, hout, -⟩ := hbody
  · simp [hout, h, h1]
  · simp [hout, h, h1, statusVerdict_ne_timeout]

/-- Settles O20: the garbage byte passes the first seek, and the frame's first byte, compared with the second magic
byte, fails the second. -/
theorem frameLostAfterPartialMagic : Obligations.FrameLostAfterPartialMagic := by
  intro s f rest hne hf0 hrx
  obtain ⟨hout, henv, -⟩ := cyclePath_first_mismatch (takeRx_listed hrx) (takeRx_listed rfl) (hf0.trans_ne hne)
  exact ⟨hout, congrArg Env.rx henv⟩

/-- Settles O21: the block read stops at the silence and uses it up. -/
theorem splitFrameIsLost : Obligations.SplitFrameIsLost := by
  intro s body rest hlen hrx
  rw [List.append_assoc] at hrx
  obtain ⟨hout, henv, -⟩ := cyclePath_short (takeRx_listed hrx) (takeRx_listed rfl) (takeBlock_gap body hlen rfl) hlen
  exact ⟨hout, congrArg Env.rx henv⟩

end Sys2Proof.Machine

/-! Polls of an open link (43_resync_decoder.md R162, R164, R166). A poll is one path of the cycle and its report; the
rest of what the next poll depends on stays as it was, so polls over a listed stream are taken one after another. -/

namespace Sys2Proof.Machine

/-! ### One poll -/

/-- From `s` a poll ends in `t`, which reports the outcome `o` and leaves E as `e`; the link stays open and idle. -/
structure Polled (s : State) (o : FrameOutcome StatusFrame) (e : Env) (t : State) : Prop where
  exec     : exec .pollStatus s = .next t
  env      : t.env = e
  params   : t.params = s.params
  pending  : t.pending = none
  sess     : t.sess = .opened
  response : t.respTrace = s.respTrace ++ [pollResponse o]
  log      : t.logTrace = s.logTrace ++ pollLog s.params o

/-- A poll takes the path that its cycle takes. -/
theorem CyclePath.polled {s : State} {o : FrameOutcome StatusFrame} {e : Env} {cs : List LinkCall}
    (h : CyclePath s o e cs) (hp : s.pending = none) (ho : s.sess = .opened) : ∃ t, Polled s o e t := by
  obtain ⟨rfl, rfl, -⟩ := h
  obtain ⟨hparams, -, -⟩ := cycle_keeps_params_and_histories (s := s) rfl
  obtain ⟨hsess, -, -⟩ := decodeCycle_keeps_session s
  have hpending : (decodeCycle s).2.pending = s.pending := by rw [decodeCycle_frame s]
  exact ⟨_, exec_pollStatus_of_cycle hp ho rfl, rfl, hparams, hpending.trans hp, hsess.trans ho, rfl, rfl⟩

/-! ### Polls one after another -/

theorem execAll_append {is js : List Instr} {s t : State} (h : execAll is s = .next t) :
    execAll (is ++ js) s = execAll js t := by
  induction is generalizing s with
  | nil =>
    cases h
    rfl
  | cons i is ih =>
    rw [List.cons_append]
    cases hi : exec i s with
    | next u =>
      rw [execAll_cons_of_next hi] at h ⊢
      exact ih h
    | fault r => cases r
    | refused r =>
      rw [execAll, hi] at h
      cases h

/-- `c` at the head of the stream is what a cycle under the parameters `p` reads, whatever comes behind it, and the
outcome is `o`. -/
def ReadsAs (p : Params) (c : List RxItem) (o : FrameOutcome StatusFrame) : Prop :=
  ∀ (s : State) (rest : List RxItem), s.params = p → s.env.rx = c ++ rest →
    ∃ cs, CyclePath s o { s.env with rx := rest } cs

theorem ReadsAs.polled {p : Params} {c : List RxItem} {o : FrameOutcome StatusFrame} (h : ReadsAs p c o) {s : State}
    {rest : List RxItem} (hparams : s.params = p) (hp : s.pending = none) (ho : s.sess = .opened)
    (hrx : s.env.rx = c ++ rest) : ∃ t, Polled s o { s.env with rx := rest } t := by
  obtain ⟨cs, hpath⟩ := h s rest hparams hrx
  exact hpath.polled hp ho

/-- Bytes that arrive in an empty stream are what the next poll reads. -/
theorem ReadsAs.polled_delivered {s : State} {c rest : List RxItem} {o : FrameOutcome StatusFrame} {bs : List Byte}
    (h : ReadsAs s.params c o) (hp : s.pending = none) (ho : s.sess = .opened) (hrx : s.env.rx = [])
    (hbs : bs.map RxItem.byte = c ++ rest) : ∃ t, Polled (s.deliver bs) o { s.env with rx := rest } t :=
  h.polled (s := s.deliver bs) rfl hp ho (by simp [hrx, hbs])

/-- Polls over pieces of the stream that all read as one outcome report it once for each piece. -/
theorem execAll_polls {p : Params} {o : FrameOutcome StatusFrame} {pieces : List (List RxItem)}
    (hreads : ∀ c ∈ pieces, ReadsAs p c o) {s : State} {rest : List RxItem} (hparams : s.params = p)
    (hp : s.pending = none) (ho : s.sess = .opened) (hrx : s.env.rx = pieces.flatten ++ rest) :
    ∃ t, execAll (List.replicate pieces.length .pollStatus) s = .next t ∧ t.env = { s.env with rx := rest } ∧
      t.params = p ∧ t.pending = none ∧ t.sess = .opened ∧
      t.respTrace = s.respTrace ++ List.replicate pieces.length (pollResponse o) ∧
      t.logTrace = s.logTrace ++ (List.replicate pieces.length (pollLog p o)).flatten := by
  induction pieces generalizing s with
  | nil => exact ⟨s, rfl, by rw [← show s.env.rx = rest from hrx], hparams, hp, ho, by simp, by simp⟩
  | cons c pieces ih =>
    obtain ⟨hc, hpieces⟩ := List.forall_mem_cons.1 hreads
    rw [List.flatten_cons, List.append_assoc] at hrx
    obtain ⟨u, hu⟩ := hc.polled hparams hp ho hrx
    obtain ⟨t, hexec, henv, hrest⟩ := ih hpieces (hu.params.trans hparams) hu.pending hu.sess (by rw [hu.env])
    rw [hu.response, hu.log, hparams] at hrest
    refine ⟨t, ?_, by rw [henv, hu.env], ?_⟩
    · rw [List.length_cons, List.replicate_succ, execAll_cons_of_next hu.exec, hexec]
    · simpa [List.replicate_succ] using hrest

/-- Six bytes behind a magic read as their verdict. -/
theorem readsAs_frame {p : Params} {f : Bytes6 Byte} (h0 : f.b0 = magicWire p 0#1) (h1 : f.b1 = magicWire p 1#1) :
    ReadsAs p (frameItems f) (parseStatus p f) := by
  rintro s rest rfl hrx
  exact ⟨_, cyclePath_frame_magic hrx h0 h1⟩

/-- An encoded status frame reads as its fields. -/
theorem readsAs_encodeStatus (p : Params) (src dst : Nibble) (status : Byte) :
    ReadsAs p (frameItems (encodeStatus p src dst status)) (.decoded ⟨src, dst, status, statusCk p status⟩) := by
  rw [← parseStatus_encodeStatus]
  exact readsAs_frame rfl rfl

/-- A byte that is not the first magic byte reads as a mismatch. -/
theorem readsAs_garbage {p : Params} {b : Byte} (hb : b ≠ magicWire p 0#1) :
    ReadsAs p [.byte b] (.failed .magicMismatch) := by
  rintro s rest rfl hrx
  exact ⟨_, cyclePath_mismatch (takeRx_listed hrx) hb⟩

/-! ### The obligations -/

/-- The period of the repeated frame, entered at offset 2 (43_resync_decoder.md R164). -/
def misalignedPeriod : Bytes6 Byte := ⟨0xFE#8, 0xCA#8, 0xF6#8, 0x99#8, 0xFE#8, 0xCA#8⟩

/-- The period begins with the magic and has a wrong checksum. -/
theorem readsAs_misaligned {p : Params} (hmagic : p.magic = 0xCAFE#16) (hcrc : p.crc = crcCcittFalse) :
    ReadsAs p (frameItems misalignedPeriod) (.failed (.checksumMismatch 0xCAFE#16 0xF360#16)) := by
  have h0 : misalignedPeriod.b0 = loByte p.magic := by rw [hmagic]; decide
  have h1 : misalignedPeriod.b1 = hiByte p.magic := by rw [hmagic]; decide
  have hck : statusCk p misalignedPeriod.b3 = 0xF360#16 := by rw [statusCk, hcrc]; decide +kernel
  have hparse := parseStatus_of_checksum_ne (ck := 0xCAFE#16) h0 h1 (by decide) (by rw [hck]; decide)
  rw [hck] at hparse
  rw [← hparse]
  exact readsAs_frame h0 h1

/-- Settles O22: every period reads alike, and leaves the next one at the same offset. -/
theorem perpetualMisalignment : Obligations.PerpetualMisalignment := by
  intro n s rest hmagic hcrc hp ho hrx
  have hreads : ∀ c ∈ List.replicate n (frameItems misalignedPeriod),
      ReadsAs s.params c (.failed (.checksumMismatch 0xCAFE#16 0xF360#16)) := by
    intro c hc
    rw [List.eq_of_mem_replicate hc]
    exact readsAs_misaligned hmagic hcrc
  obtain ⟨t, hexec, henv, -, -, hsess, hresp, hlog⟩ := execAll_polls hreads rfl hp ho hrx
  rw [List.length_replicate] at hexec hresp hlog
  refine ⟨t, hexec, congrArg Env.rx henv, hsess, hresp, ?_⟩
  rw [hlog]
  simp [pollLog, failLog]

/-- Settles O25: the garbage is polled away byte by byte, and what is left begins with the frame. -/
theorem resynchronizesAfterGarbage : Obligations.ResynchronizesAfterGarbage := by
  intro g s src dst status rest hg hp ho hrx
  have hreads : ∀ c ∈ g.map fun b => [RxItem.byte b], ReadsAs s.params c (.failed .magicMismatch) := by
    simpa using fun b hb => readsAs_garbage (hg b hb)
  have hflat : (g.map fun b => [RxItem.byte b]).flatten = g.map RxItem.byte := by
    rw [← List.flatMap_def, ← List.map_eq_flatMap]
  rw [List.append_assoc, ← hflat] at hrx
  obtain ⟨t, hexec, henv, hparams, hpend, hsess, hresp, hlog⟩ := execAll_polls hreads rfl hp ho hrx
  rw [List.length_map] at hexec hresp hlog
  obtain ⟨u, hu⟩ := (readsAs_encodeStatus s.params src dst status).polled hparams hpend hsess (congrArg Env.rx henv)
  refine ⟨u, ?_, congrArg Env.rx hu.env, ?_, ?_⟩
  · rw [List.replicate_succ', execAll_append hexec, execAll_cons_of_next hu.exec]
    rfl
  · rw [hu.log, hlog]
    simp [pollLog, failLog]
  · rw [hu.response, hresp]
    rfl

/-- Settles O24: the frame is the whole stream, and a well-formed one is the encoding of its fields. -/
theorem arrivedStatusFrameIsPolled : Obligations.ArrivedStatusFrameIsPolled := by
  intro s src dst status ck hwf hp ho hrx
  obtain rfl : ck = statusCk s.params status := of_decide_eq_true hwf
  obtain ⟨u, hu⟩ := (readsAs_encodeStatus s.params src dst status).polled_delivered (rest := []) hp ho hrx
    (List.append_nil _).symm
  refine ⟨_, u, exec_statusFrame src dst status _ s, hu.exec, hu.response, ?_, congrArg Env.rx hu.env, hu.sess⟩
  rw [hu.log]
  simp [pollLog]

/-- The first six bytes of a command frame, as a receiver of status frames takes them (43_resync_decoder.md R166). -/
def commandAsStatus (p : Params) (src dst : Nibble) (angle : Int) (ck : Word16) : Bytes6 Byte where
  b0 := loByte p.magic
  b1 := hiByte p.magic
  b2 := packHeader p src dst
  b3 := loByte (word16 angle)
  b4 := hiByte (word16 angle)
  b5 := loByte ck

theorem layCommand_items (p : Params) (src dst : Nibble) (angle : Int) (ck : Word16) :
    (bytes7List (layCommand p src dst angle ck)).map RxItem.byte =
      frameItems (commandAsStatus p src dst angle ck) ++ [.byte (hiByte ck)] := rfl

/-- Settles O23: the first six bytes of the command frame are a status frame's, behind the same magic and header. -/
theorem foreignTrafficIsReadAsStatus : Obligations.ForeignTrafficIsReadAsStatus := by
  intro s src dst angle ck hp ho hrx
  obtain ⟨u, hu⟩ := (readsAs_frame (f := commandAsStatus s.params src dst angle ck) rfl rfl).polled_delivered hp ho hrx
    (layCommand_items s.params src dst angle ck)
  refine ⟨_, u, exec_commandFrame src dst angle ck s, hu.exec, congrArg Env.rx hu.env, ?_⟩
  rw [hu.response, parseStatus_of_magic rfl rfl]
  obtain ⟨hck, hv⟩ | ⟨hck, hv⟩ := statusVerdict_cases s.params (packHeader s.params src dst) (loByte (word16 angle))
    (hiByte (word16 angle)) (loByte ck)
  · rw [if_pos hck, commandAsStatus, hv, headerSrc_packHeader, headerDst_packHeader]
    rfl
  · rw [if_neg hck, commandAsStatus, hv]
    rfl

end Sys2Proof.Machine

/-! What the instructions leave unchanged, and operations whose primitive is answered late (44_link_session.md R194 to
R197, 60_exceptions.md R234, R235). Each frame is read off the ways in which the wait for E's answer can end, and the
poll's off the paths of its cycle. -/

namespace Sys2Proof.Machine

/-! ### Requests, by what is in progress -/

/-- What holds of the operation run and of the caller refused holds of a request. -/
theorem whenIdle_elim {P : State → Prop} {s : State} {run : State → State} (hidle : s.pending = none → P (run s))
    (hbusy : ∀ op, s.pending = some op → P (s.refuse .concurrentCaller)) : P (s.whenIdle run) := by
  cases hp : s.pending with
  | none =>
    rw [whenIdle_idle hp]
    exact hidle hp
  | some op =>
    rw [whenIdle_busy hp]
    exact hbusy op hp

section Open
variable {s : State} {path : Path} {rate : Word32}

theorem openLink_of_opened (ho : s.sess = .opened) : openLink path rate s = s.refuse .openWhileOpen := if_pos ho

theorem openLink_of_rate_zero (ho : s.sess ≠ .opened) (hr : rate = 0#32) : openLink path rate s = s.openFailed :=
  (if_neg ho).trans (if_pos hr)

theorem openLink_of_rate_ne_zero (ho : s.sess ≠ .opened) (hr : rate ≠ 0#32) :
    openLink path rate s = awaitLinkOpen path rate (s.issue (.linkOpen path rate lineFormat)) :=
  (if_neg ho).trans (if_neg hr)

end Open

/-- Settles O28: with no operation in progress the answer to `LinkOpen` leaves none. -/
theorem openResults : Obligations.OpenResults := by
  intro s path rate hp
  rw [exec_openLink, whenIdle_idle hp]
  refine ⟨fun ho => ?_, fun ho hr => ?_, fun ho hr h e he => ?_, fun ho hr e he => ?_⟩
  · rw [openLink_of_opened ho]
    rfl
  · rw [openLink_of_rate_zero ho hr]
    rfl
  · rw [openLink_of_rate_ne_zero ho hr, awaitLinkOpen_ok (s := s.issue _) he,
      setPending_of_pending (s := (s.issue _).setEnv e) hp]
    rfl
  · rw [openLink_of_rate_ne_zero ho hr, awaitLinkOpen_fail (s := s.issue _) he,
      setPending_of_pending (s := (s.issue _).setEnv e) hp]
    rfl

/-- Settles O34: the count accepted decides how much of the frame joins the TX stream, and nothing else. -/
theorem shortWritesAreSilent : Obligations.ShortWritesAreSilent := by
  intro s src dst angle k l hp ho hwrites
  have hexec := (sendCommandResults s src dst angle hp).2 ho k _ (takeWrite_listed hwrites) _ rfl
  exact ⟨_, hexec, rfl, by simp [txStream], rfl, rfl⟩

/-! ### The frames of OPEN, CLOSE and SEND_COMMAND -/

theorem takeOpen_frame (e : Env) :
    e.takeOpen.2 = { e with opens := e.takeOpen.2.opens, draws := e.takeOpen.2.draws } := by
  unfold Env.takeOpen
  split <;> rfl

theorem takeClose_frame (e : Env) :
    e.takeClose.2 = { e with closes := e.takeClose.2.closes, draws := e.takeClose.2.draws } := by
  unfold Env.takeClose
  split
  · rfl
  · split <;> rfl

theorem takeWrite_frame (e : Env) :
    e.takeWrite.2 = { e with writes := e.takeWrite.2.writes, draws := e.takeWrite.2.draws } := by
  unfold Env.takeWrite
  split
  · rfl
  · split <;> rfl

/-- `t` differs from `s` at most in what OPEN may write (44_link_session.md R194). -/
def OpenWrites (s t : State) : Prop :=
  t = { s with
    sess := t.sess, handle := t.handle, baud := t.baud, logTrace := t.logTrace, respTrace := t.respTrace
    issued := t.issued, pending := t.pending, refused := t.refused, refusals := t.refusals, env := t.env } ∧
  t.env = { s.env with opens := t.env.opens, draws := t.env.draws }

/-- `t` differs from `s` at most in what CLOSE may write (44_link_session.md R195). -/
def CloseWrites (s t : State) : Prop :=
  t = { s with
    sess := t.sess, handle := t.handle, baud := t.baud, respTrace := t.respTrace, issued := t.issued
    pending := t.pending, refused := t.refused, refusals := t.refusals, env := t.env } ∧
  t.env = { s.env with closes := t.env.closes, draws := t.env.draws }

/-- `t` differs from `s` at most in what SEND_COMMAND may write (44_link_session.md R196). -/
def SendWrites (s t : State) : Prop :=
  t = { s with
    txBuf := t.txBuf, txTrace := t.txTrace, respTrace := t.respTrace, issued := t.issued, pending := t.pending
    refused := t.refused, refusals := t.refusals, env := t.env } ∧
  t.env = { s.env with writes := t.env.writes, draws := t.env.draws }

theorem awaitLinkOpen_writes (path : Path) (rate : Word32) (s : State) : OpenWrites s (awaitLinkOpen path rate s) := by
  have henv := takeOpen_frame s.env
  obtain ⟨k, e, h, ht⟩ | ⟨e, h, ht⟩ | ⟨e, h, ht⟩ := awaitLinkOpen_cases path rate s <;> rw [h] at henv <;> rw [ht]
  · exact ⟨rfl, henv⟩
  · exact ⟨rfl, henv⟩
  · exact ⟨rfl, henv⟩

theorem openLink_writes (path : Path) (rate : Word32) (s : State) : OpenWrites s (openLink path rate s) := by
  by_cases ho : s.sess = .opened
  · rw [openLink_of_opened ho]
    exact ⟨rfl, rfl⟩
  · by_cases hr : rate = 0#32
    · rw [openLink_of_rate_zero ho hr]
      exact ⟨rfl, rfl⟩
    · rw [openLink_of_rate_ne_zero ho hr]
      exact awaitLinkOpen_writes path rate (s.issue _)

theorem awaitLinkClose_writes (s : State) : CloseWrites s (awaitLinkClose s) := by
  have henv := takeClose_frame s.env
  obtain ⟨e, h, ht⟩ | ⟨e, h, ht⟩ := awaitLinkClose_cases s <;> rw [h] at henv <;> rw [ht]
  · exact ⟨rfl, henv⟩
  · exact ⟨rfl, henv⟩

theorem closeLink_writes (s : State) : CloseWrites s (closeLink s) := by
  by_cases ho : s.sess = .opened
  · rw [closeLink_of_opened ho]
    exact awaitLinkClose_writes (s.issue _)
  · rw [closeLink_of_not_opened ho]
    exact ⟨rfl, rfl⟩

theorem awaitTxWrite_writes (bs : Bytes7 Byte) (s : State) : SendWrites s (awaitTxWrite bs s) := by
  have henv := takeWrite_frame s.env
  obtain ⟨k, e, h, ht⟩ | ⟨e, h, ht⟩ := awaitTxWrite_cases bs s <;> rw [h] at henv <;> rw [ht]
  · exact ⟨rfl, henv⟩
  · exact ⟨rfl, henv⟩

theorem sendCommand_writes (src dst : Nibble) (angle : Int) (s : State) :
    SendWrites s (sendCommand src dst angle s) := by
  by_cases ho : s.sess = .opened
  · rw [sendCommand_of_opened ho]
    exact awaitTxWrite_writes _ ((s.setTxBuf _).issue _)
  · rw [sendCommand_of_not_opened ho]
    exact ⟨rfl, rfl⟩

/-- Settles O35: a refusal, a failure and each answer of `LinkOpen` write no more than that. -/
theorem openFrame : Obligations.OpenFrame := by
  intro s t path rate h
  cases h
  exact whenIdle_elim (fun _ => openLink_writes path rate s) fun _ _ => ⟨rfl, rfl⟩

/-- Settles O36: a refusal, a close without a link and each answer of `LinkClose` write no more than that. -/
theorem closeFrame : Obligations.CloseFrame := by
  intro s t h
  cases h
  exact whenIdle_elim (fun _ => closeLink_writes s) fun _ _ => ⟨rfl, rfl⟩

/-- Settles O37: a refusal, a send without a link and each answer of `TxWrite` write no more than that. -/
theorem sendCommandFrame : Obligations.SendCommandFrame := by
  intro s t src dst angle h
  cases h
  exact whenIdle_elim (fun _ => sendCommand_writes src dst angle s) fun _ _ => ⟨rfl, rfl⟩

/-! ### The frame of POLL_STATUS -/

/-- `e'` is `e` with a first part of the RX stream consumed. -/
def RxAdvanced (e e' : Env) : Prop := e' = { e with rx := e'.rx, draws := e'.draws } ∧ e'.rx <:+ e.rx

theorem RxAdvanced.refl (e : Env) : RxAdvanced e e := ⟨rfl, List.suffix_rfl⟩

theorem RxAdvanced.trans {e e1 e2 : Env} (h1 : RxAdvanced e e1) (h2 : RxAdvanced e1 e2) : RxAdvanced e e2 := by
  obtain ⟨hrest1, hrx1⟩ := h1
  obtain ⟨hrest2, hrx2⟩ := h2
  exact ⟨by rw [hrest2, hrest1], hrx2.trans hrx1⟩

theorem takeRx_advances (e : Env) : RxAdvanced e e.takeRx.2 := by
  refine ⟨takeRx_frame e, ?_⟩
  unfold Env.takeRx
  split
  · rename_i x xs h
    rw [h]
    exact List.suffix_cons x xs
  · split <;> exact List.suffix_rfl

theorem takeBlock_advances (n : Nat) (e : Env) : RxAdvanced e (Env.takeBlock n e).2 := by
  induction n generalizing e with
  | zero => exact .refl e
  | succ n ih =>
    have hhead := takeRx_advances e
    rcases h : e.takeRx with ⟨x, e1⟩
    rw [h] at hhead
    cases x with
    | gap => simpa only [Env.takeBlock, h] using hhead
    | byte b => simpa only [Env.takeBlock, h] using hhead.trans (ih e1)

/-- A cycle consumes what its reads take from the RX stream, and asks E for nothing else. -/
theorem decodeCycle_advances (s : State) : RxAdvanced s.env (decodeCycle s).2.env := by
  have hfirst := takeRx_advances s.env
  obtain ⟨e, h, -, henv, -⟩ | ⟨e, b, h, -, -, henv, -⟩ | ⟨e, h, hsecond⟩ := decodeCycle_paths s <;> rw [h] at hfirst
  · rwa [henv]
  · rwa [henv]
  have hnext := takeRx_advances e
  obtain ⟨e1, h1, -, henv, -⟩ | ⟨e1, b, h1, -, -, henv, -⟩ | ⟨e1, h1, hbody⟩ := hsecond <;> rw [h1] at hnext
  · rw [henv]
    exact hfirst.trans hnext
  · rw [henv]
    exact hfirst.trans hnext
  have hblock := takeBlock_advances 4 e1
  obtain ⟨e2, bs, h2, -, -, henv, -⟩ | ⟨e2, c0, c1, c2, c3, h2, -, henv, -⟩ := hbody <;> rw [h2] at hblock
  · rw [henv]
    exact hfirst.trans (hnext.trans hblock)
  · rw [henv]
    exact hfirst.trans (hnext.trans hblock)

/-- `t` differs from `s` at most in what POLL_STATUS may write (44_link_session.md R197). -/
def PollWrites (s t : State) : Prop :=
  t = { s with
    decState := t.decState, seekIdx := t.seekIdx, rxBuf := t.rxBuf, logTrace := t.logTrace
    respTrace := t.respTrace, issued := t.issued, refused := t.refused, refusals := t.refusals, env := t.env } ∧
  RxAdvanced s.env t.env ∧ (s.decoderAtRest → t.decoderAtRest)

theorem pollStatus_writes (s : State) : PollWrites s (pollStatus s) := by
  by_cases ho : s.sess = .opened
  · have hframe : CycleFrame s (decodeCycle s).2 := decodeCycle_frame s
    rw [pollStatus_of_opened ho]
    refine ⟨?_, decodeCycle_advances s, fun _ => decodeCycle_rests s⟩
    rw [hframe]
    rfl
  · rw [pollStatus_of_not_opened ho]
    exact ⟨rfl, .refl _, id⟩

/-- Settles O38: a poll writes what its cycle writes and reports, and a cycle consumes a first part of the stream. -/
theorem pollStatusFrame : Obligations.PollStatusFrame := by
  intro s t h
  cases h
  obtain ⟨hfields, ⟨hrest, used, hused⟩, hdec⟩ : PollWrites s (s.whenIdle pollStatus) :=
    whenIdle_elim (fun _ => pollStatus_writes s) fun _ _ => ⟨rfl, .refl _, id⟩
  exact ⟨hfields, hrest, ⟨used, hused.symm⟩, hdec⟩

/-! ### The wire frames -/

/-- Settles O32: a frame's bytes are those of its layout, and their arrival is all that happens. -/
theorem wireFramesArrive : Obligations.WireFramesArrive :=
  ⟨fun s src dst angle ck => exec_commandFrame src dst angle ck s,
    fun s src dst status ck => exec_statusFrame src dst status ck s⟩

/-- Settles O39: an instruction that is no host operation is a frame, and its bytes arrive. -/
theorem wireFramesFrame : Obligations.WireFramesFrame := by
  intro s t i hi h
  cases i with
  | openLink | closeLink | sendCommand | pollStatus => cases hi
  | commandFrame src dst angle ck =>
    cases h
    exact ⟨bytes7List (layCommand s.params src dst angle ck), rfl⟩
  | statusFrame src dst status ck =>
    cases h
    exact ⟨bytes6List (layStatus s.params src dst status ck), rfl⟩

/-! ### Waiting for an answer -/

theorem step_of_busy {s : State} {op : Pending} (hp : s.pending = some op) (hi : onlyHostWaits s.inputs = true) :
    step s = .next (resume op s) := by
  simp only [step, fetch_busy hp hi]

/-- The look for E's answer decides anew what is in progress, whatever was. -/
theorem resume_setPending (op : Pending) (p : Option Pending) (s : State) :
    resume op (s.setPending p) = resume op s := by
  cases op with
  | linkOpen path rate =>
    rcases h : s.env.takeOpen with ⟨a, e⟩
    have h' : (s.setPending p).env.takeOpen = (a, e) := h
    cases a <;> simp only [resume, awaitLinkOpen, h, h'] <;> rfl
  | linkClose =>
    rcases h : s.env.takeClose with ⟨a, e⟩
    have h' : (s.setPending p).env.takeClose = (a, e) := h
    cases a <;> simp only [resume, awaitLinkClose, h, h'] <;> rfl
  | txWrite bs =>
    rcases h : s.env.takeWrite with ⟨a, e⟩
    have h' : (s.setPending p).env.takeWrite = (a, e) := h
    cases a <;> simp only [resume, awaitTxWrite, h, h'] <;> rfl

/-- An operation held back looks for its answer as one that has just issued its primitive does. -/
theorem step_of_held {s : State} (op : Pending) (hi : onlyHostWaits s.inputs = true) :
    step (s.setPending (some op)) = .next (resume op s) := by
  rw [step_of_busy (s := s.setPending (some op)) rfl hi, resume_setPending]

/-! A request that gets as far as its primitive issues it and looks for the answer. -/

theorem exec_openLink_looks {s : State} {path : Path} {rate : Word32} (hp : s.pending = none) (ho : s.sess ≠ .opened)
    (hr : rate ≠ 0#32) : exec (.openLink path rate) s =
      .next (resume (.linkOpen path rate) (s.issue (.linkOpen path rate lineFormat))) := by
  rw [exec_openLink, whenIdle_idle hp, openLink_of_rate_ne_zero ho hr, resume]

theorem exec_closeLink_looks {s : State} (hp : s.pending = none) (ho : s.sess = .opened) :
    exec .closeLink s = .next (resume .linkClose (s.issue (.linkClose s.handle))) := by
  rw [exec_closeLink, whenIdle_idle hp, closeLink_of_opened ho, resume]

theorem exec_sendCommand_looks {s : State} (hp : s.pending = none) (ho : s.sess = .opened) {src dst : Nibble}
    {angle : Int} {f : Bytes7 Byte} (hf : encodeCommand s.params src dst angle = f) :
    exec (.sendCommand src dst angle) s = .next (resume (.txWrite f) ((s.setTxBuf f).issue (.txWrite f))) := by
  rw [exec_sendCommand, whenIdle_idle hp, sendCommand_of_opened ho, hf, resume]

/-- Settles O33: the answer that was missing only moved E on, and the look for the next one is the same. -/
theorem lateAnswerGivesTheSameResult : Obligations.LateAnswerGivesTheSameResult := by
  refine ⟨fun s path rate a l hp hi ho hr hopens => ?_, fun s a l hp hi ho hcloses => ?_,
    fun s src dst angle a l hp hi ho hwrites => ?_⟩
  · have hheld : resume (.linkOpen path rate) (s.issue (.linkOpen path rate lineFormat)) = _ :=
      awaitLinkOpen_notYet (takeOpen_listed hopens)
    refine ⟨_, (exec_openLink_looks hp ho hr).trans (congrArg _ hheld), rfl, rfl, rfl,
      (step_of_held _ (by exact hi)).trans ?_⟩
    exact (exec_openLink_looks (s := s.setEnv { s.env with opens := a :: l }) hp ho hr).symm
  · have hheld : resume .linkClose (s.issue (.linkClose s.handle)) = _ :=
      awaitLinkClose_notYet (takeClose_listed hcloses)
    refine ⟨_, (exec_closeLink_looks hp ho).trans (congrArg _ hheld), rfl, rfl, rfl,
      (step_of_held _ (by exact hi)).trans ?_⟩
    exact (exec_closeLink_looks (s := s.setEnv { s.env with closes := a :: l }) hp ho).symm
  · generalize hf : encodeCommand s.params src dst angle = f
    have hheld : resume (.txWrite f) ((s.setTxBuf f).issue (.txWrite f)) = _ :=
      awaitTxWrite_notYet (takeWrite_listed hwrites)
    refine ⟨_, (exec_sendCommand_looks hp ho hf).trans (congrArg _ hheld), rfl, rfl, rfl,
      (step_of_held _ (by exact hi)).trans ?_⟩
    exact (exec_sendCommand_looks (s := s.setEnv { s.env with writes := a :: l }) hp ho hf).symm

/-- Looking for the answer leaves the inputs alone, and the operation goes on waiting or ends with a response. -/
theorem resume_waits_or_ends (op : Pending) (s : State) : (resume op s).inputs = s.inputs ∧
    (((resume op s).pending = some op ∧ (resume op s).respTrace = s.respTrace) ∨
      ((resume op s).pending = none ∧ ∃ r, (resume op s).respTrace = s.respTrace ++ [r])) := by
  cases op with
  | linkOpen path rate =>
    obtain ⟨k, e, -, h⟩ | ⟨e, -, h⟩ | ⟨e, -, h⟩ := awaitLinkOpen_cases path rate s <;> rw [resume, h]
    · exact ⟨rfl, .inr ⟨rfl, _, rfl⟩⟩
    · exact ⟨rfl, .inr ⟨rfl, _, rfl⟩⟩
    · exact ⟨rfl, .inl ⟨rfl, rfl⟩⟩
  | linkClose =>
    obtain ⟨e, -, h⟩ | ⟨e, -, h⟩ := awaitLinkClose_cases s <;> rw [resume, h]
    · exact ⟨rfl, .inr ⟨rfl, _, rfl⟩⟩
    · exact ⟨rfl, .inl ⟨rfl, rfl⟩⟩
  | txWrite bs =>
    obtain ⟨k, e, -, h⟩ | ⟨e, -, h⟩ := awaitTxWrite_cases bs s <;> rw [resume, h]
    · exact ⟨rfl, .inr ⟨rfl, _, rfl⟩⟩
    · exact ⟨rfl, .inl ⟨rfl, rfl⟩⟩

/-- Settles O52: such a step is one look for the answer, and with nothing to do there is none. -/
theorem hostWaitsForTheResponse : Obligations.HostWaitsForTheResponse :=
  ⟨fun s op hp hi => ⟨step_of_busy hp hi, resume_waits_or_ends op s⟩,
    fun s hp hi => by simp only [step, fetch_nothing hp hi]⟩

end Sys2Proof.Machine

/-! Steps (20_memory.md R64, 60_exceptions.md R233): what the next input has the machine do, which steps refuse, and
that nothing else touches the refusal record or the parameters. -/

namespace Sys2Proof.Machine

/-! ### What the next input has the machine do -/

/-- Everything a step can find at the borders of the block, and what it then does. -/
inductive FetchCase (s : State) : Fetched → Prop
  | wait (hp : s.pending = none) (hi : s.inputs = []) : FetchCase s .wait
  | resume {op : Pending} (hp : s.pending = some op) (hi : onlyHostWaits s.inputs = true) : FetchCase s (.resume op)
  | reset {rest : List Input} (hi : s.inputs = .reset :: rest) : FetchCase s .reset
  | intruder {e : Encoded} {rest : List Input} (hi : s.inputs = .intruder e :: rest) :
      FetchCase s (.refuse .concurrentCaller)
  | request {w : Word32} {path : Path} {baud : Word32} {rest : List Input} (hp : s.pending = none)
      (hi : s.inputs = .encoded (.request w path baud) :: rest) :
      FetchCase s (fetchedOf [] (decode s.params (.request w path baud)))
  | wire {k : FrameKind} {bs : List Byte} {rest : List Input} (hi : s.inputs = .encoded (.wire k bs) :: rest) :
      FetchCase s (fetchedOf bs (decode s.params (.wire k bs)))

theorem fetch_cases (s : State) : FetchCase s (fetch s) := by
  have hbusy {op : Pending} (hp : s.pending = some op) (hi : onlyHostWaits s.inputs = true) : FetchCase s (fetch s) :=
    fetch_busy hp hi ▸ .resume hp hi
  match hi : s.inputs with
  | [] =>
    cases hp : s.pending with
    | none => exact fetch_nothing hp hi ▸ .wait hp hi
    | some op => exact hbusy hp (by rw [hi]; rfl)
  | .reset :: rest => exact fetch_reset hi ▸ .reset hi
  | .intruder e :: rest => exact fetch_intruder hi ▸ .intruder hi
  | .encoded (.request w path baud) :: rest =>
    cases hp : s.pending with
    | none => exact fetch_request hp hi ▸ .request hp hi
    | some op => exact hbusy hp (by rw [hi]; rfl)
  | .encoded (.wire k bs) :: rest => exact fetch_wire hi ▸ .wire hi

theorem fetchedOf_eq_run_iff {bs : List Byte} {d : Decoded} {i : Instr} : fetchedOf bs d = .run i ↔ d = .instr i := by
  cases d <;> simp [fetchedOf]

theorem fetchedOf_eq_refuse_iff {bs : List Byte} {d : Decoded} {r : RefusalReason} :
    fetchedOf bs d = .refuse r ↔ d = .reserved r := by
  cases d <;> simp [fetchedOf]

theorem fetchedOf_ne_resume {bs : List Byte} {d : Decoded} {op : Pending} : fetchedOf bs d ≠ .resume op := by
  cases d <;> simp [fetchedOf]

/-- Bytes on the wire are never refused as a request. -/
theorem decode_wire_ne_reserved (p : Params) (k : FrameKind) (bs : List Byte) (r : RefusalReason) :
    decode p (.wire k bs) ≠ .reserved r := by
  cases k with
  | command =>
    show decodeCommandFrame p bs ≠ .reserved r
    unfold decodeCommandFrame
    split
    · split <;> simp
    · simp
  | status =>
    show decodeStatusFrame p bs ≠ .reserved r
    unfold decodeStatusFrame
    split
    · split <;> simp
    · simp

/-- What is resumed is in progress. -/
theorem pending_of_fetch_resume {s : State} {op : Pending} (h : fetch s = .resume op) : s.pending = some op := by
  have hcase := fetch_cases s
  generalize fetch s = f at h hcase
  cases hcase with
  | resume hp hi =>
    cases h
    exact hp
  | wait | reset | intruder => cases h
  | request | wire => exact absurd h fetchedOf_ne_resume

/-- A host operation is run only when none is in progress: its request would wait, and a frame is none. -/
theorem pending_of_fetch_run {s : State} {i : Instr} (h : fetch s = .run i) (hi : Instr.isHostOperation i = true) :
    s.pending = none := by
  have hcase := fetch_cases s
  generalize fetch s = f at h hcase
  cases hcase with
  | request hp => exact hp
  | wait | resume | reset | intruder => cases h
  | wire =>
    obtain ⟨-, -, hframe⟩ := decode_wire_eq_instr (fetchedOf_eq_run_iff.1 h)
    rw [hframe] at hi
    cases hi

/-! ### Why a step refuses -/

/-- The cases of 60_exceptions.md R233, with the reason of each. -/
def RefusalCause (s : State) (r : RefusalReason) : Prop :=
  (∃ w path baud rest, s.pending = none ∧ s.inputs = .encoded (.request w path baud) :: rest ∧
    decode s.params (.request w path baud) = .reserved r) ∨
  (r = .openWhileOpen ∧ s.sess = .opened ∧ s.pending = none ∧ ∃ path rate, fetch s = .run (.openLink path rate)) ∨
  (r = .concurrentCaller ∧ ∃ e rest, s.inputs = .intruder e :: rest)

theorem refusalCause_of_fetch {s : State} {r : RefusalReason} (h : fetch s = .refuse r) : RefusalCause s r := by
  have hcase := fetch_cases s
  generalize fetch s = f at h hcase
  cases hcase with
  | wait | resume | reset => cases h
  | intruder hi =>
    cases h
    exact .inr (.inr ⟨rfl, _, _, hi⟩)
  | request hp hi => exact .inl ⟨_, _, _, _, hp, hi, fetchedOf_eq_refuse_iff.1 h⟩
  | wire => exact absurd (fetchedOf_eq_refuse_iff.1 h) (decode_wire_ne_reserved _ _ _ _)

/-- A step that has a cause to refuse takes the input and refuses it, and does nothing else. -/
theorem step_of_cause {s : State} {r : RefusalReason} (h : RefusalCause s r) :
    step s = .next (s.dropInput.refuse r) := by
  obtain ⟨w, path, baud, rest, hp, hi, hd⟩ | ⟨rfl, ho, hp, path, rate, hf⟩ | ⟨rfl, e, rest, hi⟩ := h
  · have hf : fetch s = .refuse r := (fetch_request hp hi).trans (fetchedOf_eq_refuse_iff.2 hd)
    simp only [step, hf]
  · simp only [step, hf]
    rw [exec_openLink, whenIdle_idle (s := s.dropInput) hp, openLink_of_opened (s := s.dropInput) ho]
  · simp only [step, fetch_intruder hi]

/-! ### What is not refused -/

/-- `t` has the parameters and the refusal record of `s`. -/
def RecordKept (s t : State) : Prop := t.params = s.params ∧ t.refused = s.refused ∧ t.refusals = s.refusals

theorem RecordKept.refl (s : State) : RecordKept s s := ⟨rfl, rfl, rfl⟩

theorem resume_keeps_record (op : Pending) (s : State) : RecordKept s (resume op s) := by
  cases op with
  | linkOpen path rate =>
    obtain ⟨k, e, -, h⟩ | ⟨e, -, h⟩ | ⟨e, -, h⟩ := awaitLinkOpen_cases path rate s <;> rw [resume, h]
    · exact .refl _
    · exact .refl _
    · exact .refl _
  | linkClose =>
    obtain ⟨e, -, h⟩ | ⟨e, -, h⟩ := awaitLinkClose_cases s <;> rw [resume, h]
    · exact .refl _
    · exact .refl _
  | txWrite bs =>
    obtain ⟨k, e, -, h⟩ | ⟨e, -, h⟩ := awaitTxWrite_cases bs s <;> rw [resume, h]
    · exact .refl _
    · exact .refl _

theorem openLink_keeps_record {s : State} (ho : s.sess ≠ .opened) (path : Path) (rate : Word32) :
    RecordKept s (openLink path rate s) := by
  by_cases hr : rate = 0#32
  · rw [openLink_of_rate_zero ho hr]
    exact .refl _
  · rw [openLink_of_rate_ne_zero ho hr]
    exact resume_keeps_record (.linkOpen path rate) (s.issue _)

theorem closeLink_keeps_record (s : State) : RecordKept s (closeLink s) := by
  by_cases ho : s.sess = .opened
  · rw [closeLink_of_opened ho]
    exact resume_keeps_record .linkClose (s.issue _)
  · rw [closeLink_of_not_opened ho]
    exact .refl _

theorem sendCommand_keeps_record (src dst : Nibble) (angle : Int) (s : State) :
    RecordKept s (sendCommand src dst angle s) := by
  by_cases ho : s.sess = .opened
  · rw [sendCommand_of_opened ho]
    exact resume_keeps_record (.txWrite _) ((s.setTxBuf _).issue _)
  · rw [sendCommand_of_not_opened ho]
    exact .refl _

theorem pollStatus_keeps_record (s : State) : RecordKept s (pollStatus s) := by
  by_cases ho : s.sess = .opened
  · have hcycle : RecordKept s (decodeCycle s).2 := by
      rw [decodeCycle_frame s]
      exact .refl _
    rw [pollStatus_of_opened ho]
    exact hcycle
  · rw [pollStatus_of_not_opened ho]
    exact .refl _

/-- Why an instruction is refused: OPEN while open, or a host operation while another is in progress. -/
def ExecRefuses (i : Instr) (s : State) (r : RefusalReason) : Prop :=
  (r = .openWhileOpen ∧ s.sess = .opened ∧ s.pending = none ∧ ∃ path rate, i = .openLink path rate) ∨
  (r = .concurrentCaller ∧ s.pending ≠ none ∧ Instr.isHostOperation i = true)

/-- A host operation is refused when another is in progress, and is not if its run never refuses. -/
theorem whenIdle_keeps_record_or_refuses {i : Instr} {s : State} {run : State → State}
    (hi : Instr.isHostOperation i = true) (hrun : RecordKept s (run s)) :
    RecordKept s (s.whenIdle run) ∨ ∃ r, ExecRefuses i s r ∧ s.whenIdle run = s.refuse r := by
  cases hp : s.pending with
  | none => exact .inl (by rwa [whenIdle_idle hp])
  | some op => exact .inr ⟨_, .inr ⟨rfl, by simp [hp], hi⟩, whenIdle_busy hp run⟩

theorem exec_keeps_record_or_refuses {i : Instr} {s t : State} (h : exec i s = .next t) :
    RecordKept s t ∨ ∃ r, ExecRefuses i s r ∧ t = s.refuse r := by
  cases i with
  | openLink path rate =>
    cases h
    cases hp : s.pending with
    | none =>
      rw [whenIdle_idle hp]
      by_cases ho : s.sess = .opened
      · exact .inr ⟨_, .inl ⟨rfl, ho, hp, path, rate, rfl⟩, openLink_of_opened ho⟩
      · exact .inl (openLink_keeps_record ho path rate)
    | some op => exact .inr ⟨_, .inr ⟨rfl, by simp [hp], rfl⟩, whenIdle_busy hp _⟩
  | closeLink =>
    cases h
    exact whenIdle_keeps_record_or_refuses rfl (closeLink_keeps_record s)
  | sendCommand src dst angle =>
    cases h
    exact whenIdle_keeps_record_or_refuses rfl (sendCommand_keeps_record src dst angle s)
  | pollStatus =>
    cases h
    exact whenIdle_keeps_record_or_refuses rfl (pollStatus_keeps_record s)
  | commandFrame | statusFrame =>
    cases h
    exact .inl (.refl _)

/-- A step keeps the parameters and the refusal record, or has a cause to refuse and does nothing else. -/
theorem step_keeps_record_or_refuses {s t : State} (h : step s = .next t) :
    RecordKept s t ∨ ∃ r, RefusalCause s r ∧ t = s.dropInput.refuse r := by
  unfold step at h
  cases hf : fetch s <;> rw [hf] at h
  case wait | reset | noise =>
    cases h
    exact .inl (.refl _)
  case resume op =>
    cases h
    exact .inl (resume_keeps_record op s)
  case refuse r =>
    cases h
    exact .inr ⟨r, refusalCause_of_fetch hf, rfl⟩
  case run i =>
    obtain hkept | ⟨r, ⟨rfl, ho, hp, path, rate, rfl⟩ | ⟨rfl, hp, hi⟩, rfl⟩ := exec_keeps_record_or_refuses h
    · exact .inl hkept
    · exact .inr ⟨_, .inr (.inl ⟨rfl, ho, hp, path, rate, hf⟩), rfl⟩
    · exact absurd (pending_of_fetch_run hf hi) hp

/-! ### The obligations -/

theorem dropInput_of_cons {s : State} {x : Input} {rest : List Input} (hi : s.inputs = x :: rest) :
    s.dropInput = s.setInputs rest := by
  rw [State.dropInput_eq, hi, List.tail_cons]

/-- Settles O4: the words that no operation accepts, and the step that has one as its input. -/
theorem reservedRequestsAreRefused : Obligations.ReservedRequestsAreRefused := by
  refine ⟨fun p w path baud r => decodeRequest_eq_reserved_iff, fun s w path baud rest r hp hi hd => ?_⟩
  rw [step_of_cause (.inl ⟨w, path, baud, rest, hp, hi, hd⟩), dropInput_of_cons hi]
  rfl

/-- Settles O53: a host operation is refused whatever it is, and a second agent's request is not looked at. -/
theorem concurrentCallersAreRefused : Obligations.ConcurrentCallersAreRefused := by
  refine ⟨fun i s op hi hp => ?_, fun s e rest hi => ?_⟩
  · cases i with
    | openLink path rate => exact congrArg _ (whenIdle_busy hp (openLink path rate))
    | closeLink => exact congrArg _ (whenIdle_busy hp closeLink)
    | sendCommand src dst angle => exact congrArg _ (whenIdle_busy hp (sendCommand src dst angle))
    | pollStatus => exact congrArg _ (whenIdle_busy hp pollStatus)
    | commandFrame | statusFrame => cases hi
  · rw [step_of_cause (.inr (.inr ⟨rfl, e, rest, hi⟩)), dropInput_of_cons hi]
    rfl

/-- Settles O46: a step that lengthens the refusal record has not kept it, so it has a cause; and a cause has one
reason. -/
theorem refusalsHaveTheirCauses : Obligations.RefusalsHaveTheirCauses := by
  intro s t r hstep
  have hforward (hr : t.refusals = s.refusals ++ [r]) : RefusalCause s r ∧ t.refused = true := by
    obtain ⟨-, -, hkept⟩ | ⟨r', hcause, rfl⟩ := step_keeps_record_or_refuses hstep
    · simp [hkept] at hr
    · obtain rfl : r' = r := by simpa [State.refuse] using hr
      exact ⟨hcause, rfl⟩
  refine ⟨⟨fun hr => (hforward hr).1, fun hcause => ?_⟩, fun hr => (hforward hr).2⟩
  rw [step_of_cause hcause] at hstep
  cases hstep
  rfl

/-- Settles O45: a step keeps the mark or sets it with a reason. -/
theorem refusalMarkIsSticky : Obligations.RefusalMarkIsSticky := by
  refine ⟨rfl, fun s t hstep => ?_⟩
  obtain ⟨-, hmark, -⟩ | ⟨r, -, rfl⟩ := step_keeps_record_or_refuses hstep
  · rw [hmark]
    exact ⟨id, fun hclear hset => by simp [hclear] at hset⟩
  · exact ⟨fun _ => rfl, fun _ _ => ⟨r, rfl⟩⟩

/-- Settles O47: a refusal does not write the parameters either. -/
theorem noStepWritesTheParameters : Obligations.NoStepWritesTheParameters := by
  intro s t hstep
  obtain ⟨hparams, -, -⟩ | ⟨r, -, rfl⟩ := step_keeps_record_or_refuses hstep
  · exact hparams
  · rfl

/-- Settles O48: every instruction and every step runs a function. -/
theorem noStepStops : Obligations.NoStepStops := by
  refine ⟨fun s => ?_, fun i s => ?_⟩
  · obtain ⟨f, hf, -⟩ := step_runs_blind s
    exact ⟨_, hf⟩
  · obtain ⟨f, hf, -⟩ := exec_runs_blind i
    exact ⟨_, hf s⟩

theorem step_of_run {s : State} {i : Instr} {x : Input} {rest : List Input} (hf : fetch s = .run i)
    (hi : s.inputs = x :: rest) : step s = exec i (s.setInputs rest) := by
  simp only [step, hf, dropInput_of_cons hi]

theorem step_of_noise {s : State} {bs : List Byte} {x : Input} {rest : List Input} (hf : fetch s = .noise bs)
    (hi : s.inputs = x :: rest) : step s = .next ((s.setInputs rest).deliver bs) := by
  simp only [step, hf, dropInput_of_cons hi]

theorem step_of_wire {s : State} {k : FrameKind} {bs : List Byte} {rest : List Input} {i : Instr}
    (hi : s.inputs = .encoded (.wire k bs) :: rest) (hd : decode s.params (.wire k bs) = .instr i) :
    step s = exec i (s.setInputs rest) :=
  step_of_run ((fetch_wire hi).trans (fetchedOf_eq_run_iff.2 hd)) hi

theorem step_of_encoded {s : State} {e : Encoded} {rest : List Input} {i : Instr} (hp : s.pending = none)
    (hi : s.inputs = .encoded e :: rest) (hd : decode s.params e = .instr i) : step s = exec i (s.setInputs rest) := by
  cases e with
  | request w path baud => exact step_of_run ((fetch_request hp hi).trans (fetchedOf_eq_run_iff.2 hd)) hi
  | wire k bs => exact step_of_wire hi hd

theorem fetchedOf_noise {bs : List Byte} {d : Decoded} (hd : d = .badLength ∨ ∃ r, d = .badFrame r) :
    fetchedOf bs d = .noise bs := by
  obtain rfl | ⟨r, rfl⟩ := hd <;> rfl

/-- Settles O51: what the input decodes to is what is run, and a table word stands as the first input. -/
theorem stepRunsTheDecodedInstruction : Obligations.StepRunsTheDecodedInstruction := by
  refine ⟨fun s e rest i => step_of_encoded, fun s k bs rest i => step_of_wire,
    fun s k bs rest hi hd => step_of_noise ((fetch_wire hi).trans (fetchedOf_noise hd)) hi,
    fun s nbits w e i he hd => ?_⟩
  have hinputs : (s.withFetchWord nbits w).inputs = .encoded e :: s.inputs := by
    simp [State.withFetchWord, tableInput, he]
  exact step_of_encoded rfl hinputs hd

end Sys2Proof.Machine

/-! The invariant of a run (10_state.md R21, R23, R24; log entries 5 and 6). An operation whose primitive is unanswered
is one that the session mode allows, so the answer, whenever it comes, leaves handle, rate and mode in agreement. -/

namespace Sys2Proof.Machine

theorem sessionOk_of_none {s : State} (hh : s.handle = none) (hb : s.baud = none) (ho : s.sess ≠ .opened) :
    s.sessionOk := by
  simp [State.sessionOk, hh, hb, ho]

theorem sessionOk_of_held {s : State} {k : LinkHandle} {rate : Word32} (hh : s.handle = some k)
    (hb : s.baud = some rate) (hr : rate ≠ 0#32) (ho : s.sess = .opened) : s.sessionOk := by
  refine ⟨by simp [hh, ho], by simp [hb, ho], ?_⟩
  rw [hb]
  exact fun h => hr (Option.some.inj h)

section Kept
variable {s : State} (h : s.Inv)
include h

theorem refuse_keeps_inv (r : RefusalReason) : (s.refuse r).Inv := by
  obtain ⟨hsess, hdec, hpend, -⟩ := h
  exact ⟨hsess, hdec, hpend, by simp [State.markOk, State.refuse]⟩

/-- With nothing in progress the session may be written to hold no link. -/
theorem setSession_none_keeps_inv {m : Sess} (hm : m ≠ .opened) (hp : s.pending = none) :
    (s.setSession m none none).Inv := by
  obtain ⟨-, hdec, -, hmark⟩ := h
  exact ⟨sessionOk_of_none rfl rfl hm, hdec, by rw [State.setSession_pending, hp]; rfl, hmark⟩

theorem setPending_keeps_inv {op : Option Pending} (hop : pendingOk s.sess op = true) : (s.setPending op).Inv := by
  obtain ⟨hsess, hdec, -, hmark⟩ := h
  exact ⟨hsess, hdec, hop, hmark⟩

theorem blockReset_keeps_inv : s.blockReset.Inv := by
  obtain ⟨-, -, -, hmark⟩ := h
  exact ⟨sessionOk_of_none rfl rfl (by simp), ⟨rfl, rfl⟩, rfl, hmark⟩

theorem awaitLinkOpen_keeps_inv (path : Path) {rate : Word32} (ho : s.sess ≠ .opened) (hr : rate ≠ 0#32) :
    (awaitLinkOpen path rate s).Inv := by
  obtain ⟨k, e, -, ht⟩ | ⟨e, -, ht⟩ | ⟨e, -, ht⟩ := awaitLinkOpen_cases path rate s <;> rw [ht]
  · obtain ⟨-, hdec, -, hmark⟩ := h
    exact ⟨sessionOk_of_held rfl rfl hr rfl, hdec, rfl, hmark⟩
  · have hidle : ((s.setEnv e).setPending none).Inv := setPending_keeps_inv (s := s.setEnv e) h rfl
    exact setSession_none_keeps_inv hidle (by simp) rfl
  · exact setPending_keeps_inv (s := s.setEnv e) h (by simp [pendingOk, ho, hr])

theorem awaitLinkClose_keeps_inv (ho : s.sess = .opened) : (awaitLinkClose s).Inv := by
  obtain ⟨e, -, ht⟩ | ⟨e, -, ht⟩ := awaitLinkClose_cases s <;> rw [ht]
  · have hidle : ((s.setEnv e).setPending none).Inv := setPending_keeps_inv (s := s.setEnv e) h rfl
    exact setSession_none_keeps_inv hidle (by simp) rfl
  · exact setPending_keeps_inv (s := s.setEnv e) h (by simp [pendingOk, ho])

theorem awaitTxWrite_keeps_inv (bs : Bytes7 Byte) (ho : s.sess = .opened) : (awaitTxWrite bs s).Inv := by
  obtain ⟨k, e, -, ht⟩ | ⟨e, -, ht⟩ := awaitTxWrite_cases bs s <;> rw [ht]
  · exact setPending_keeps_inv (s := s.setEnv e) h rfl
  · exact setPending_keeps_inv (s := s.setEnv e) h (by simp [pendingOk, ho])

/-- The operation in progress fits the mode, which is what the answer to it needs. -/
theorem resume_keeps_inv {op : Pending} (hp : s.pending = some op) : (resume op s).Inv := by
  have ⟨_, _, hpend, _⟩ := h
  rw [hp] at hpend
  cases op with
  | linkOpen path rate =>
    obtain ⟨ho, hr⟩ : s.sess ≠ .opened ∧ rate ≠ 0#32 := by simpa [pendingOk] using hpend
    exact awaitLinkOpen_keeps_inv h path ho hr
  | linkClose => exact awaitLinkClose_keeps_inv h (of_decide_eq_true hpend)
  | txWrite bs => exact awaitTxWrite_keeps_inv h bs (of_decide_eq_true hpend)

theorem openLink_keeps_inv (hp : s.pending = none) (path : Path) (rate : Word32) : (openLink path rate s).Inv := by
  by_cases ho : s.sess = .opened
  · rw [openLink_of_opened ho]
    exact refuse_keeps_inv h _
  · by_cases hr : rate = 0#32
    · rw [openLink_of_rate_zero ho hr]
      exact setSession_none_keeps_inv h (by simp) hp
    · rw [openLink_of_rate_ne_zero ho hr]
      exact awaitLinkOpen_keeps_inv (s := s.issue _) h path ho hr

theorem closeLink_keeps_inv (hp : s.pending = none) : (closeLink s).Inv := by
  by_cases ho : s.sess = .opened
  · rw [closeLink_of_opened ho]
    exact awaitLinkClose_keeps_inv (s := s.issue _) h ho
  · rw [closeLink_of_not_opened ho]
    exact setSession_none_keeps_inv h (by simp) hp

theorem sendCommand_keeps_inv (src dst : Nibble) (angle : Int) : (sendCommand src dst angle s).Inv := by
  by_cases ho : s.sess = .opened
  · rw [sendCommand_of_opened ho]
    exact awaitTxWrite_keeps_inv (s := (s.setTxBuf _).issue _) h _ ho
  · rw [sendCommand_of_not_opened ho]
    exact h

/-- A cycle ends with the decoder at rest and touches nothing else that the invariant speaks of. -/
theorem decodeCycle_keeps_inv : (decodeCycle s).2.Inv := by
  obtain ⟨hsess, -, hpend, hmark⟩ := h
  have hframe : CycleFrame s (decodeCycle s).2 := decodeCycle_frame s
  refine ⟨?_, decodeCycle_rests s, ?_, ?_⟩ <;> rw [hframe]
  · exact hsess
  · exact hpend
  · exact hmark

theorem pollStatus_keeps_inv : (pollStatus s).Inv := by
  by_cases ho : s.sess = .opened
  · rw [pollStatus_of_opened ho]
    exact decodeCycle_keeps_inv h
  · rw [pollStatus_of_not_opened ho]
    exact h

theorem exec_keeps_inv {i : Instr} {t : State} (hexec : exec i s = .next t) : t.Inv := by
  cases i with
  | openLink path rate =>
    cases hexec
    exact whenIdle_elim (fun hp => openLink_keeps_inv h hp path rate) fun _ _ => refuse_keeps_inv h _
  | closeLink =>
    cases hexec
    exact whenIdle_elim (fun hp => closeLink_keeps_inv h hp) fun _ _ => refuse_keeps_inv h _
  | sendCommand src dst angle =>
    cases hexec
    exact whenIdle_elim (fun _ => sendCommand_keeps_inv h src dst angle) fun _ _ => refuse_keeps_inv h _
  | pollStatus =>
    cases hexec
    exact whenIdle_elim (fun _ => pollStatus_keeps_inv h) fun _ _ => refuse_keeps_inv h _
  | commandFrame | statusFrame =>
    cases hexec
    exact h

end Kept

/-- Settles O49: by what `fetch` has the step do; taking the input leaves the invariant alone. -/
theorem stepKeepsTheInvariant : Obligations.StepKeepsTheInvariant := by
  intro s t h hstep
  have hdrop : s.dropInput.Inv := h
  unfold step at hstep
  cases hf : fetch s <;> rw [hf] at hstep
  case run i => exact exec_keeps_inv hdrop hstep
  case wait =>
    cases hstep
    exact h
  case resume op =>
    cases hstep
    exact resume_keeps_inv h (pending_of_fetch_resume hf)
  case reset =>
    cases hstep
    exact blockReset_keeps_inv hdrop
  case refuse r =>
    cases hstep
    exact refuse_keeps_inv hdrop r
  case noise bs =>
    cases hstep
    exact hdrop

/-- Settles O50: no link, the decoder at rest, nothing in progress, nothing refused. -/
theorem resetMeetsTheInvariant : Obligations.ResetMeetsTheInvariant :=
  ⟨sessionOk_of_none rfl rfl (by simp [State.reset]), ⟨rfl, rfl⟩, rfl, by simp [State.markOk, State.reset]⟩

end Sys2Proof.Machine

/-! CLOSED and POWERLESS behave alike (10_state.md R22): what an operation does from a closed state it does from the
powerless one too, except that an operation which leaves the mode as it was leaves each its own. -/

namespace Sys2Proof.Machine

/-- `s` in the session mode POWERLESS. -/
def State.asPowerless (s : State) : State := { s with sess := .powerless }

/-- From the closed `s` and from its powerless twin `f` ends alike: in one state, or in each mode left as it was. -/
def Alike (f : State → State) (s : State) : Prop :=
  f s.asPowerless = f s ∨ ((f s).sess = .closed ∧ f s.asPowerless = (f s).asPowerless)

/-- The two ends agree in every field but `sess`, and in `sess` too unless both kept theirs. -/
theorem Alike.ends {f : State → State} {s : State} (h : Alike f s) :
    { f s.asPowerless with sess := (f s).sess } = f s ∧
      ((f s.asPowerless).sess = (f s).sess ∨ ((f s).sess = .closed ∧ (f s.asPowerless).sess = .powerless)) := by
  obtain heq | ⟨hclosed, heq⟩ := h
  · rw [heq]
    exact ⟨rfl, .inl rfl⟩
  · rw [heq]
    exact ⟨rfl, .inr ⟨hclosed, rfl⟩⟩

section Twins
variable {s : State}

theorem asPowerless_not_opened (s : State) : s.asPowerless.sess ≠ .opened := by simp [State.asPowerless]

theorem awaitLinkOpen_alike (hc : s.sess = .closed) (path : Path) (rate : Word32) :
    Alike (awaitLinkOpen path rate) s := by
  rcases h : s.env.takeOpen with ⟨a, e⟩
  unfold Alike
  cases a with
  | ok k =>
    rw [awaitLinkOpen_ok h, awaitLinkOpen_ok (s := s.asPowerless) h]
    exact .inl rfl
  | fail =>
    rw [awaitLinkOpen_fail h, awaitLinkOpen_fail (s := s.asPowerless) h]
    exact .inl rfl
  | notYet =>
    rw [awaitLinkOpen_notYet h, awaitLinkOpen_notYet (s := s.asPowerless) h]
    exact .inr ⟨hc, rfl⟩

theorem awaitLinkClose_alike (hc : s.sess = .closed) : Alike awaitLinkClose s := by
  rcases h : s.env.takeClose with ⟨a, e⟩
  unfold Alike
  cases a with
  | done =>
    rw [awaitLinkClose_done h, awaitLinkClose_done (s := s.asPowerless) h]
    exact .inl rfl
  | notYet =>
    rw [awaitLinkClose_notYet h, awaitLinkClose_notYet (s := s.asPowerless) h]
    exact .inr ⟨hc, rfl⟩

theorem awaitTxWrite_alike (hc : s.sess = .closed) (bs : Bytes7 Byte) : Alike (awaitTxWrite bs) s := by
  rcases h : s.env.takeWrite with ⟨a, e⟩
  unfold Alike
  cases a with
  | done k =>
    rw [awaitTxWrite_done h, awaitTxWrite_done (s := s.asPowerless) h]
    exact .inr ⟨hc, rfl⟩
  | notYet =>
    rw [awaitTxWrite_notYet h, awaitTxWrite_notYet (s := s.asPowerless) h]
    exact .inr ⟨hc, rfl⟩

theorem resume_alike (hc : s.sess = .closed) (op : Pending) : Alike (resume op) s := by
  cases op with
  | linkOpen path rate => exact awaitLinkOpen_alike hc path rate
  | linkClose => exact awaitLinkClose_alike hc
  | txWrite bs => exact awaitTxWrite_alike hc bs

theorem openLink_alike (hc : s.sess = .closed) (path : Path) (rate : Word32) : Alike (openLink path rate) s := by
  have ho : s.sess ≠ .opened := by simp [hc]
  unfold Alike
  by_cases hr : rate = 0#32
  · rw [openLink_of_rate_zero ho hr, openLink_of_rate_zero (asPowerless_not_opened s) hr]
    exact .inl rfl
  · rw [openLink_of_rate_ne_zero ho hr, openLink_of_rate_ne_zero (asPowerless_not_opened s) hr]
    exact awaitLinkOpen_alike (s := s.issue _) hc path rate

theorem closeLink_alike (hc : s.sess = .closed) : Alike closeLink s := by
  unfold Alike
  rw [closeLink_of_not_opened (s := s) (by simp [hc]), closeLink_of_not_opened (asPowerless_not_opened s)]
  exact .inl rfl

theorem sendCommand_alike (hc : s.sess = .closed) (src dst : Nibble) (angle : Int) :
    Alike (sendCommand src dst angle) s := by
  unfold Alike
  rw [sendCommand_of_not_opened (s := s) (by simp [hc]), sendCommand_of_not_opened (asPowerless_not_opened s)]
  exact .inr ⟨hc, rfl⟩

theorem pollStatus_alike (hc : s.sess = .closed) : Alike pollStatus s := by
  unfold Alike
  rw [pollStatus_of_not_opened (s := s) (by simp [hc]), pollStatus_of_not_opened (asPowerless_not_opened s)]
  exact .inr ⟨hc, rfl⟩

theorem whenIdle_alike (hc : s.sess = .closed) {run : State → State} (h : Alike run s) : Alike (·.whenIdle run) s := by
  cases hp : s.pending with
  | none => simpa only [Alike, whenIdle_idle hp, whenIdle_idle (s := s.asPowerless) hp] using h
  | some op =>
    simp only [Alike, whenIdle_busy hp, whenIdle_busy (s := s.asPowerless) hp]
    exact .inr ⟨hc, rfl⟩

end Twins

/-- An instruction runs one function, alike from the two modes. -/
theorem exec_runs_alike (i : Instr) : ∃ f, (∀ s, exec i s = .next (f s)) ∧ ∀ s, s.sess = .closed → Alike f s := by
  cases i with
  | openLink path rate =>
    exact ⟨_, exec_openLink path rate, fun s hc => whenIdle_alike hc (openLink_alike hc path rate)⟩
  | closeLink => exact ⟨_, exec_closeLink, fun s hc => whenIdle_alike hc (closeLink_alike hc)⟩
  | sendCommand src dst angle =>
    exact ⟨_, exec_sendCommand src dst angle, fun s hc => whenIdle_alike hc (sendCommand_alike hc src dst angle)⟩
  | pollStatus => exact ⟨_, exec_pollStatus, fun s hc => whenIdle_alike hc (pollStatus_alike hc)⟩
  | commandFrame src dst angle ck => exact ⟨_, exec_commandFrame src dst angle ck, fun s hc => .inr ⟨hc, rfl⟩⟩
  | statusFrame src dst status ck => exact ⟨_, exec_statusFrame src dst status ck, fun s hc => .inr ⟨hc, rfl⟩⟩

/-- So does a step: `fetch` does not look at the mode. -/
theorem step_runs_alike {s : State} (hc : s.sess = .closed) :
    ∃ f, step s = .next (f s) ∧ step s.asPowerless = .next (f s.asPowerless) ∧ Alike f s := by
  cases hf : fetch s <;> have hf' := show fetch s.asPowerless = _ from hf
  case wait => exact ⟨id, by simp only [step, hf]; rfl, by simp only [step, hf']; rfl, .inr ⟨hc, rfl⟩⟩
  case resume op => exact ⟨resume op, by simp only [step, hf], by simp only [step, hf'], resume_alike hc op⟩
  case reset =>
    exact ⟨fun s => s.dropInput.blockReset, by simp only [step, hf], by simp only [step, hf'], .inl rfl⟩
  case refuse r =>
    exact ⟨fun s => s.dropInput.refuse r, by simp only [step, hf], by simp only [step, hf'], .inr ⟨hc, rfl⟩⟩
  case noise bs =>
    exact ⟨fun s => s.dropInput.deliver bs, by simp only [step, hf], by simp only [step, hf'], .inr ⟨hc, rfl⟩⟩
  case run i =>
    obtain ⟨f, hexec, halike⟩ := exec_runs_alike i
    exact ⟨fun s => f s.dropInput, by simp only [step, hf, hexec], by simp only [step, hf', hexec],
      halike s.dropInput hc⟩

/-- Settles O42: both halves are what `Alike` says of the two ends. -/
theorem closedAndPowerlessBehaveAlike : Obligations.ClosedAndPowerlessBehaveAlike := by
  refine ⟨fun i s t hc hexec => ?_, fun s t hc hstep => ?_⟩
  · obtain ⟨f, hf, halike⟩ := exec_runs_alike i
    obtain rfl : f s = t := by simpa [hf] using hexec
    exact ⟨_, hf _, (halike s hc).ends⟩
  · obtain ⟨f, hf, hf', halike⟩ := step_runs_alike hc
    obtain rfl : f s = t := by simpa [hf] using hstep
    exact ⟨_, hf', halike.ends⟩

end Sys2Proof.Machine

/-! The environment's read answers (20_memory.md R51, R52). -/

namespace Sys2Proof.Machine

section Reads
variable {s : State} {e : Env}

theorem rxByte_of_takeRx {x : RxItem} (h : s.env.takeRx = (x, e)) :
    s.rxByte.1 = byteAnswer x ∧ s.rxByte.2.env = e := by
  simp [State.rxByte, h]

theorem rxBlock_of_takeBlock {bs : List Byte} (h : Env.takeBlock 4 s.env = (bs, e)) :
    s.rxBlock.1 = blockAnswer 4 bs ∧ s.rxBlock.2.env = e := by
  simp [State.rxBlock, h]

theorem blockAnswer_full {bs : List Byte} (h : bs.length = 4) : blockAnswer 4 bs = .bytes bs := if_pos h

theorem blockAnswer_short {bs : List Byte} (h : bs.length < 4) : blockAnswer 4 bs = .short bs := if_neg h.ne

theorem blockAnswer_length {n : Nat} {l bs : List Byte} (h : blockAnswer n l = .bytes bs) : bs.length = n := by
  unfold blockAnswer at h
  split at h
  · cases h
    assumption
  · cases h

theorem rxBlock_listed {bs : List Byte} {rest : List RxItem} (hlen : bs.length = 4)
    (hrx : s.env.rx = bs.map RxItem.byte ++ rest) : s.rxBlock.1 = .bytes bs ∧ s.rxBlock.2.env.rx = rest := by
  have htake := takeBlock_listed bs hrx
  rw [hlen] at htake
  obtain ⟨hanswer, henv⟩ := rxBlock_of_takeBlock htake
  exact ⟨hanswer.trans (blockAnswer_full hlen), congrArg Env.rx henv⟩

/-- A block read under the queue oracle gives what is there, if that is too little. -/
theorem takeBlock_quiet (q : List Byte) {n : Nat} (hn : q.length < n) (hquiet : e.quiet = true)
    (hrx : e.rx = q.map RxItem.byte) : Env.takeBlock n e = (q, { e with rx := [] }) := by
  induction q generalizing n e with
  | nil =>
    obtain ⟨n, rfl⟩ := Nat.exists_eq_succ_of_ne_zero hn.ne'
    rw [Env.takeBlock, takeRx_quiet hrx hquiet, ← show e.rx = [] from hrx]
  | cons b q ih =>
    obtain ⟨n, rfl⟩ := Nat.exists_eq_succ_of_ne_zero (Nat.ne_zero_of_lt hn)
    rw [Env.takeBlock, takeRx_listed hrx]
    simp only [ih (e := { e with rx := q.map RxItem.byte }) (Nat.lt_of_succ_lt_succ hn) hquiet rfl]

end Reads

/-- Settles O55: a read takes from the listed bytes, and meets a silence behind them. -/
theorem queueOracleAnswers : Obligations.QueueOracleAnswers := by
  refine ⟨fun s q hquiet hrx => ⟨?_, ?_, fun hlen => ?_, fun hlen => ?_⟩, fun e hquiet hwrites => ?_⟩
  · rintro rfl
    exact rxByte_of_takeRx (takeRx_quiet hrx hquiet)
  · rintro b q' rfl
    obtain ⟨hanswer, henv⟩ := rxByte_of_takeRx (takeRx_listed hrx)
    exact ⟨hanswer, congrArg Env.rx henv⟩
  · refine rxBlock_listed (by simpa using hlen) ?_
    rw [← List.map_append, List.take_append_drop, hrx]
  · obtain ⟨hanswer, henv⟩ := rxBlock_of_takeBlock (takeBlock_quiet q hlen hquiet hrx)
    exact ⟨hanswer.trans (blockAnswer_short hlen), congrArg Env.rx henv⟩
  · simp [Env.takeWrite, hwrites, hquiet]

/-- E with `items` on RX and nothing else listed. -/
def Env.ofRx (items : List RxItem) : Env := { Env.free with rx := items }

/-- Settles O56: a byte, a silence, four bytes, or fewer and a silence stand first in the stream. -/
theorem everyReadAnswerIsPossible : Obligations.EveryReadAnswerIsPossible := by
  refine fun s => ⟨fun a => ?_, fun bs hlen => ?_, fun bs hlen => ?_, fun bs => blockAnswer_length⟩
  · cases a with
    | byte b => exact ⟨_, (rxByte_of_takeRx (s := s.setEnv (.ofRx [.byte b])) (takeRx_listed rfl)).1⟩
    | timeout => exact ⟨_, (rxByte_of_takeRx (s := s.setEnv (.ofRx [.gap])) (takeRx_listed rfl)).1⟩
  · exact ⟨.ofRx (bs.map RxItem.byte), (rxBlock_listed (s := s.setEnv _) hlen (List.append_nil _).symm).1⟩
  · have htake : Env.takeBlock 4 (.ofRx (bs.map RxItem.byte ++ [.gap])) = _ := takeBlock_gap bs hlen rfl
    exact ⟨_, (rxBlock_of_takeBlock (s := s.setEnv _) htake).1.trans (blockAnswer_short hlen)⟩

end Sys2Proof.Machine
